-- ==== Sys2Proof/Word.lean ====
section
/-! DEFINITION. The word types of the LTC681X protocol core (00_scope.md R22): bytes, 16-bit values and the 32-bit
host request word. Every value of the block is unsigned (R22). -/

namespace Sys2Proof

/-- `UInt8` of R22. -/
abbrev Byte := BitVec 8

/-- `UInt16` of R22: opcodes, the checksum accumulator, payload values. -/
abbrev Word16 := BitVec 16

/-- The 32-bit host request word HRW (30_encoding.md R100). -/
abbrev HostWord := BitVec 32

end Sys2Proof
end

