-- ==== Sys2Proof/Syntax.lean ====
section
/-! DEFINITION. The host operations of the block as syntax: one constructor of `Instr` per row of
spec/opcode_table.json, with the operand types the rules give, and the host request that carries one
(30_encoding.md R100 to R102). Construction is no request (R101): it is Machine/Construct.lean. -/

namespace Sys2Proof

/-- The poll strategy (10_state.md R33, 43_strategy.md R215). -/
inductive Strategy where
  | releaseImmediately
  | lineHold
deriving DecidableEq, Repr

/-- `RegisterGroupId`, the 15 register groups of 00_scope.md R15, in the order of 30_encoding.md R110. -/
inductive RegisterGroup where
  | cfga | cfgb
  | cva | cvb | cvc | cvd | cve | cvf
  | auxa | auxb | auxc | auxd
  | stata | statb
  | pwm
deriving DecidableEq, Repr

/-- A command frame CF, byte `b0` first on the wire (30_encoding.md R91). Also the width of the buffer `CMD`
(10_state.md R30). -/
structure CommandFrame where
  b0 : Byte
  b1 : Byte
  b2 : Byte
  b3 : Byte
deriving DecidableEq, Repr

/-- A per-device response frame RF, byte `r0` first on the wire (30_encoding.md R92). Also the width of the buffer
`RSP` (10_state.md R30). -/
structure ResponseFrame where
  r0 : Byte
  r1 : Byte
  r2 : Byte
  r3 : Byte
  r4 : Byte
  r5 : Byte
  r6 : Byte
  r7 : Byte
deriving DecidableEq, Repr

/-- The host operations of 30_encoding.md R101, one constructor per row of spec/opcode_table.json. -/
inductive Instr where
  /-- CALC: the checksum of a byte string of any finite length (40_checksum.md R130, 30_encoding.md R109). -/
  | calcPec (d : List Byte)
  /-- FRAME: the command frame of a 16-bit opcode (41_framing.md R150). -/
  | frame (opc : Word16)
  /-- VALIDATE: check and decode one response frame (41_framing.md R155). -/
  | validate (r : ResponseFrame)
  /-- STARTCONV: `start_conversion(mode, cell_selection, discharge_permit)` (42_transfer.md R174). -/
  | startconv (md : BitVec 2) (dcp : Bool) (ch : BitVec 3)
  /-- READ: `read_register_group(register_id)`; the 5-bit field REG (42_transfer.md R180). -/
  | read (reg : BitVec 5)
  /-- POLL: `poll_conversion_done()` (42_transfer.md R186). -/
  | poll
  /-- SWITCH: the strategy switch (43_strategy.md R215). -/
  | switch (target : Strategy)
deriving DecidableEq, Repr

/-- A host request: the 32-bit word, and the byte string that follows it on the host's data channel
(30_encoding.md R100, R107). -/
structure HostRequest where
  word : HostWord
  data : List Byte
deriving DecidableEq, Repr

end Sys2Proof
end

