-- ==== Sys2Proof/Config.lean ====
section
/-! DEFINITION. What is fixed for one instance of the block, and what the spec leaves open: the collaborators'
causes and outcomes (00_scope.md R20, R26), the construction parameters (R10 to R19), and the free values. A free
value has no body: nothing can be proved of it beyond its type. -/

namespace Sys2Proof

/-- The bus causes that stand for the TYPE PARAMETER `B` of 00_scope.md R20 in the closed type `State`. Every type and
every meaning takes `B` as a parameter; the host's fixed names need one closed type of states, and this is what they
run with. The block never looks inside a cause, so only which causes are equal can be seen: told apart by a number
(log 18). -/
structure BusCause where
  id : Nat
deriving DecidableEq, Repr, Inhabited

/-- The pin causes that stand for the TYPE PARAMETER `P` of 00_scope.md R20 in the closed type `State` (log 18). -/
structure PinCause where
  id : Nat
deriving DecidableEq, Repr, Inhabited

/-- The outcome of one `PinSetLow` or `PinSetHigh` (00_scope.md R26). -/
inductive PinResult (P : Type) where
  | ok
  | err (c : P)
deriving DecidableEq, Repr, Inhabited

/-- The outcome of one `BusTransfer` (00_scope.md R26): the received bytes, or a failure. -/
inductive BusResult (B : Type) where
  | ok (rx : List Byte)
  | err (c : B)
deriving DecidableEq, Repr, Inhabited

/-- The chip-select level as the block last drove it (10_state.md R34). -/
inductive Line where
  | asserted
  | deasserted
  | unknown
deriving DecidableEq, Repr

/-- Three decoded 16-bit payload values (30_encoding.md R92, R103). -/
structure Triple where
  v0 : Word16
  v1 : Word16
  v2 : Word16
deriving DecidableEq, Repr, Inhabited

/-- `OPCODE_OF`, the external opcode table (00_scope.md R16): one 16-bit read opcode per register group. -/
structure OpcodeTable where
  cfga : Word16
  cfgb : Word16
  cva : Word16
  cvb : Word16
  cvc : Word16
  cvd : Word16
  cve : Word16
  cvf : Word16
  auxa : Word16
  auxb : Word16
  auxc : Word16
  auxd : Word16
  stata : Word16
  statb : Word16
  pwm : Word16
deriving DecidableEq, Repr

/-- The parameters fixed at construction (70_reset_and_hazards.md R260; 00_scope.md R10, R11, R14, R16, R17, R19). -/
structure Params where
  /-- `L`, the chain length; a constructed block has L ≥ 1 (R10, R262). -/
  chainLength : Nat
  /-- `S0`, the strategy at construction (R11). -/
  initialStrategy : Strategy
  /-- `CS_INIT`, the chip-select level the host hands over (R19). -/
  csInit : Line
  /-- `ADCV_BASE` (R14). -/
  adcvBase : Word16
  /-- `MD_SHIFT` (R14): the 2-bit mode field stands at bits [MD_SHIFT+1 : MD_SHIFT] of a 16-bit opcode. -/
  mdShift : Fin 15
  /-- `DCP_BIT` (R14). -/
  dcpBit : Fin 16
  /-- `OPCODE_OF` (R16). -/
  opcodeOf : OpcodeTable
  /-- `SUPPORTED_GROUPS` (R17). -/
  supportedGroups : List RegisterGroup
  /-- `SUPPORTED_CH`, a subset of 0 to 6 (R17): CH = 7 is never a member. -/
  supportedCh : List (Fin 7)
deriving DecidableEq, Repr

namespace Config

/-- FREE VALUE. The outcome of the pin call made after `k` collaborator calls, where the host's list of draws gives
none (60_exceptions.md R247: "a free draw of the environment"). -/
opaque freePinResult {P : Type} : (k : Nat) → PinResult P

/-- FREE VALUE. The outcome of the bus transfer made after `k` collaborator calls, where the list of draws gives none
(60_exceptions.md R247). -/
opaque freeBusResult {B : Type} : (k : Nat) → BusResult B

/-- FREE VALUE. Byte `i` received by the transfer made after `k` calls, where the draw names too few bytes
(60_exceptions.md R247: "any received bytes of the right length"). -/
opaque freeRxByte : (k i : Nat) → Byte

/-- FREE VALUES. What the transient registers hold after the operation of request `k`: "Their value between operations
is unspecified" (10_state.md R30). -/
opaque freeAcc : (k : Nat) → Word16
opaque freeCmd : (k i : Nat) → Byte
opaque freeRsp : (k i : Nat) → Byte
opaque freeOut : (k i : Nat) → Triple
opaque freeIdx : (k : Nat) → Nat

/-- The byte form of a cause on the host channel: "a parameter of the host channel" (30_encoding.md R103). -/
opaque busCauseBytes {B : Type} : B → List Byte
opaque pinCauseBytes {P : Type} : P → List Byte

end Config

end Sys2Proof
end

