-- ==== Sys2Proof/WellFormed.lean ====
section
/-! DEFINITION. Which instructions a well-formed host request can stand for (30_encoding.md R102, R105 c and d,
R109, R110). What depends on the target variant (`SUPPORTED_CH`, `SUPPORTED_GROUPS`) or on the state is not syntax:
the meanings refuse it. -/

namespace Sys2Proof

/-- The well-formedness of an instruction: a CALC operand fits the 16-bit count N (30_encoding.md R109), CH is not 7
(R96), REG is at most 14 (R110). -/
def Instr.wellFormed : Instr → Bool
  | .calcPec d => decide (d.length < 65536)
  | .frame _ => true
  | .validate _ => true
  | .startconv _ _ ch => decide (ch ≠ 7#3)
  | .read reg => decide (reg.toNat ≤ 14)
  | .poll => true
  | .switch _ => true

end Sys2Proof
end

