-- ==== Sys2Proof/Decode.lean ====
section
/-! DEFINITION. The host request decoder and encoder (30_encoding.md R100 to R109), the wire order of the fixed frames
(R91, R92), and the register group numbers (R110). Decoding is total: what it rejects it rejects by name. -/

namespace Sys2Proof

/-! ### Fields of the request word (R100, R102) -/

/-- OP = HRW[31:24] (R100). -/
def opField (w : HostWord) : Byte := w.extractLsb' 24 8

/-- ARG[23:16], zero in every operation (R102). -/
def argHigh (w : HostWord) : Byte := w.extractLsb' 16 8

/-- ARG[15:0] (R102). -/
def argLow (w : HostWord) : Word16 := w.extractLsb' 0 16

/-! ### Trailing bytes (R107) -/

/-- How many bytes follow the word on the data channel: N for CALC, 8 for VALIDATE, none otherwise (R107). -/
def declaredBytes (w : HostWord) : Nat :=
  if opField w = 0x01#8 then (argLow w).toNat
  else if opField w = 0x03#8 then 8
  else 0

/-! ### Decoding -/

/-- Why a request word stands for no operation: the cases (a), (b) and (g) of R105, which the block refuses as
`ReservedEncoding`. Cases (c) to (f) depend on the target variant or the state: the meanings refuse them. -/
inductive DecodeError where
  /-- (a) an OP not in R101 -/
  | reservedSelector (op : Byte)
  /-- (b) a nonzero bit in a position R102 marks 0 -/
  | reservedBits
  /-- (g) the trailing byte string is shorter than the word says -/
  | shortOperand
deriving DecidableEq, Repr

/-- CALC: `0x01 | 0 | N`, then N bytes (R102). -/
def decodeCalc (q : HostRequest) : Except DecodeError Instr :=
  if argHigh q.word ≠ 0#8 then .error .reservedBits
  else if q.data.length < (argLow q.word).toNat then .error .shortOperand
  else .ok (.calcPec (q.data.take (argLow q.word).toNat))

/-- FRAME: `0x02 | 0 | OPC` (R102). -/
def decodeFrame (q : HostRequest) : Except DecodeError Instr :=
  if argHigh q.word ≠ 0#8 then .error .reservedBits
  else .ok (.frame (argLow q.word))

/-- VALIDATE: `0x03 | 0`, then 8 bytes (R102). -/
def decodeValidate (q : HostRequest) : Except DecodeError Instr :=
  if argHigh q.word ≠ 0#8 ∨ argLow q.word ≠ 0#16 then .error .reservedBits
  else match q.data with
    | r0 :: r1 :: r2 :: r3 :: r4 :: r5 :: r6 :: r7 :: _ => .ok (.validate ⟨r0, r1, r2, r3, r4, r5, r6, r7⟩)
    | _ => .error .shortOperand

/-- STARTCONV: ARG[15:6] = 0, MD = ARG[5:4], DCP = ARG[3], CH = ARG[2:0] (R102, R108). -/
def decodeStartconv (q : HostRequest) : Except DecodeError Instr :=
  if argHigh q.word ≠ 0#8 ∨ (argLow q.word).extractLsb' 6 10 ≠ 0#10 then .error .reservedBits
  else .ok (.startconv ((argLow q.word).extractLsb' 4 2) ((argLow q.word).getLsbD 3) ((argLow q.word).extractLsb' 0 3))

/-- READ: ARG[15:5] = 0, REG = ARG[4:0] (R102, R108). -/
def decodeRead (q : HostRequest) : Except DecodeError Instr :=
  if argHigh q.word ≠ 0#8 ∨ (argLow q.word).extractLsb' 5 11 ≠ 0#11 then .error .reservedBits
  else .ok (.read ((argLow q.word).extractLsb' 0 5))

/-- POLL: ARG = 0 (R102). -/
def decodePoll (q : HostRequest) : Except DecodeError Instr :=
  if argHigh q.word ≠ 0#8 ∨ argLow q.word ≠ 0#16 then .error .reservedBits
  else .ok .poll

/-- The strategy a TGT bit names: 0 = ReleaseImmediately, 1 = LineHold (R102). -/
def strategyOfBit : Bool → Strategy
  | false => .releaseImmediately
  | true => .lineHold

/-- SWITCH: ARG[15:1] = 0, TGT = ARG[0] (R102). -/
def decodeSwitch (q : HostRequest) : Except DecodeError Instr :=
  if argHigh q.word ≠ 0#8 ∨ (argLow q.word).extractLsb' 1 15 ≠ 0#15 then .error .reservedBits
  else .ok (.switch (strategyOfBit ((argLow q.word).getLsbD 0)))

/-- The decoder: the operation selectors of R101; every other OP is reserved (R105 a). Bytes on the data channel
beyond those the word declares are not part of the operand (DEDUCED, log 15). -/
def decode (q : HostRequest) : Except DecodeError Instr :=
  if opField q.word = 0x01#8 then decodeCalc q
  else if opField q.word = 0x02#8 then decodeFrame q
  else if opField q.word = 0x03#8 then decodeValidate q
  else if opField q.word = 0x10#8 then decodeStartconv q
  else if opField q.word = 0x11#8 then decodeRead q
  else if opField q.word = 0x12#8 then decodePoll q
  else if opField q.word = 0x20#8 then decodeSwitch q
  else .error (.reservedSelector (opField q.word))

/-! ### Encoding (R101, R102, R112) -/

/-- OP | ARG[23:16] = 0 | ARG[15:0] as one 32-bit word (R100). -/
def requestWord (op : Byte) (arg : Word16) : HostWord := op ++ 0#8 ++ arg

/-- The TGT bit of a strategy (R102). -/
def bitOfStrategy : Strategy → Bool
  | .releaseImmediately => false
  | .lineHold => true

/-- The bytes of a response frame in wire order, `r0` first (R92). -/
def ResponseFrame.bytes (r : ResponseFrame) : List Byte := [r.r0, r.r1, r.r2, r.r3, r.r4, r.r5, r.r6, r.r7]

/-- The host request of an instruction, from the tables of R101 and R102 (the words of R112). Of a well-formed
instruction it is the one request that stands for it. -/
def encode : Instr → HostRequest
  | .calcPec d => ⟨requestWord 0x01#8 (BitVec.ofNat 16 d.length), d⟩
  | .frame opc => ⟨requestWord 0x02#8 opc, []⟩
  | .validate r => ⟨requestWord 0x03#8 0#16, r.bytes⟩
  | .startconv md dcp ch => ⟨requestWord 0x10#8 (0#10 ++ md ++ BitVec.ofBool dcp ++ ch), []⟩
  | .read reg => ⟨requestWord 0x11#8 (0#11 ++ reg), []⟩
  | .poll => ⟨requestWord 0x12#8 0#16, []⟩
  | .switch t => ⟨requestWord 0x20#8 (0#15 ++ BitVec.ofBool (bitOfStrategy t)), []⟩

/-! ### The opcode table -/

/-- One row of spec/opcode_table.json: a request word stands for the row's operation when `word & mask = value`. -/
structure OpcodeRow where
  mask : HostWord
  value : HostWord
deriving DecidableEq, Repr

/-- The row of each operation (spec/opcode_table.json, fields mask and match). -/
def opcodeRow : Instr → OpcodeRow
  | .calcPec _ => ⟨0xFFFF0000#32, 0x01000000#32⟩
  | .frame _ => ⟨0xFFFF0000#32, 0x02000000#32⟩
  | .validate _ => ⟨0xFFFFFFFF#32, 0x03000000#32⟩
  | .startconv _ _ _ => ⟨0xFFFFFFC0#32, 0x10000000#32⟩
  | .read _ => ⟨0xFFFFFFE0#32, 0x11000000#32⟩
  | .poll => ⟨0xFFFFFFFF#32, 0x12000000#32⟩
  | .switch _ => ⟨0xFFFFFFFE#32, 0x20000000#32⟩

/-- Whether a word matches a row. -/
def OpcodeRow.admits (r : OpcodeRow) (w : HostWord) : Prop := w &&& r.mask = r.value

/-! ### Register group numbers (R110) -/

/-- The REG number of a register group (R110). -/
def RegisterGroup.number : RegisterGroup → BitVec 5
  | .cfga => 0#5 | .cfgb => 1#5
  | .cva => 2#5 | .cvb => 3#5 | .cvc => 4#5 | .cvd => 5#5 | .cve => 6#5 | .cvf => 7#5
  | .auxa => 8#5 | .auxb => 9#5 | .auxc => 10#5 | .auxd => 11#5
  | .stata => 12#5 | .statb => 13#5
  | .pwm => 14#5

/-- All 15 register groups, in the order of R110. -/
def RegisterGroup.all : List RegisterGroup :=
  [.cfga, .cfgb, .cva, .cvb, .cvc, .cvd, .cve, .cvf, .auxa, .auxb, .auxc, .auxd, .stata, .statb, .pwm]

/-- The register group a REG field names; REG 15 to 31 are reserved (R110). -/
def registerGroupOf (reg : BitVec 5) : Option RegisterGroup := RegisterGroup.all[reg.toNat]?

/-! ### The host's table words -/

/-- `n` bytes, byte `i` from bits `[8i+7 : 8i]` of `w`. -/
def bytesOfBits : Nat → Nat → List Byte
  | 0, _ => []
  | n + 1, w => BitVec.ofNat 8 w :: bytesOfBits n (w / 256)

/-- The request whose bits are `w`, numbered as spec/opcode_table.json numbers them: the request word at bits 31 to 0,
then the bytes of the data channel, as many as the word declares; bits at and above `nbits` are 0 (log 22). -/
def requestOfBits (nbits w : Nat) : HostRequest :=
  let v := w % 2 ^ nbits
  let word := BitVec.ofNat 32 v
  ⟨word, bytesOfBits (declaredBytes word) (v / 2 ^ 32)⟩

/-- The instruction the decoder reads from a table word. -/
def decodeTableWord (nbits w : Nat) : Option Instr :=
  match decode (requestOfBits nbits w) with
  | .ok i => some i
  | .error _ => none

end Sys2Proof
end

