-- ==== Sys2Proof/Machine/Defaults.lean ====
section
/-! DEFINITION. The parameter values of the block `State.reset` constructs. Those the spec gives: S0 (00_scope.md
R11), the start-conversion template (R14), the boot level of chip-select (70_reset_and_hazards.md R266 b). Those it
leaves OPEN, named in the assumption log: L (log 3), OPCODE_OF (the informative values of 30_encoding.md R111, log 4),
the supported selectors (all, log 5). Statements about every state hold for every choice of parameters. -/

namespace Sys2Proof.Machine

/-- The informative read opcodes of 30_encoding.md R111. PRESUMED there "[from general knowledge, not in source]". -/
def defaultOpcodes : OpcodeTable where
  cfga := 0x0002#16
  cfgb := 0x0026#16
  cva := 0x0004#16
  cvb := 0x0006#16
  cvc := 0x0008#16
  cvd := 0x000A#16
  cve := 0x0009#16
  cvf := 0x000B#16
  auxa := 0x000C#16
  auxb := 0x000E#16
  auxc := 0x000D#16
  auxd := 0x000F#16
  stata := 0x0010#16
  statb := 0x0012#16
  pwm := 0x0022#16

/-- The parameters of the block after reset. -/
def defaultParams : Params where
  chainLength := 1
  initialStrategy := .releaseImmediately
  csInit := .deasserted
  adcvBase := 0x0260#16
  mdShift := 7
  dcpBit := 4
  opcodeOf := defaultOpcodes
  supportedGroups := RegisterGroup.all
  supportedCh := [0, 1, 2, 3, 4, 5, 6]

end Sys2Proof.Machine
end

