-- ==== Sys2Proof/Machine/State.lean ====
section
/-! DEFINITION. The state of the block as plain data: everything 10_state.md gives it, the host channel and the
environment's draws. The table `T` (R39) is the constant `pecTable` of Machine/Checksum.lean: "A model may hold it as
a constant" (log 2). There is no memory, no register file and no program counter (R30, R31, 20_memory.md R60). -/

namespace Sys2Proof.Machine

open Sys2Proof

/-- `phase`, the persistent state of the poll machine (10_state.md R35): only Idle and Polling can be seen between
operations. -/
inductive Phase where
  | idle
  | polling
deriving DecidableEq, Repr

/-- The four states of the poll machine (43_strategy.md R210). CommandSent and Complete are transient. -/
inductive MachineState where
  | idle
  | commandSent
  | polling
  | complete
deriving DecidableEq, Repr

/-- The event of one collaborator call, with its outcome (10_state.md R38). -/
inductive Event (B P : Type) where
  | pinLow (r : PinResult P)
  | pinHigh (r : PinResult P)
  | xfer (tx : List Byte) (r : BusResult B)
deriving DecidableEq, Repr

/-- The runtime errors, the three kinds of 60_exceptions.md R230 with their causes. -/
inductive Error (B P : Type) where
  | transferFailure (c : B)
  | chipSelectFailure (c : P)
  | checksumMismatch
deriving DecidableEq, Repr

/-- The value of an Ok response, per operation (30_encoding.md R103). -/
inductive Value where
  /-- CALC: `[hi, lo]` -/
  | checksum (hi lo : Byte)
  /-- FRAME: `[b0, b1, b2, b3]` -/
  | frame (f : CommandFrame)
  /-- VALIDATE: `(V0, V1, V2)` -/
  | triple (t : Triple)
  /-- STARTCONV, SWITCH: `()` -/
  | unit
  /-- READ: one triple per device, device 0 first -/
  | triples (ts : List Triple)
  /-- POLL: `done` -/
  | done (b : Bool)
deriving DecidableEq, Repr

/-- A response to the host (30_encoding.md R103). -/
inductive Response (B P : Type) where
  | ok (v : Value)
  | err (e : Error B P)
deriving DecidableEq, Repr

/-- The reason attached to `refuse(reason)`: informative, "changes nothing else" (30_encoding.md R105); the last two
refuse a construction (70_reset_and_hazards.md R260). -/
inductive RefuseReason where
  | reservedEncoding
  | unsupportedCellSelection
  | unsupportedRegisterGroup
  | pollWithoutLineHold
  | strategySwitchNotAdmitted
  | zeroChainLength
  | overlappingOpcodeFields
deriving DecidableEq, Repr

/-- How the machine can stop with a fault: in no way. The block has no trap (60_exceptions.md, introduction), every
error is a response after which "the block is ready for the next request" (R235), and every collaborator call returns
(R248). Nobody raises a fault; leaving out a hung driver is unsafe for termination claims (log 8). -/
inductive Fault where
deriving DecidableEq, Repr

/-- How a step can be refused by the MODEL. A request the BLOCK refuses is no such stop: it takes the effect
60_exceptions.md R231 gives it (`State.refuse`). -/
inductive Refusal where
  /-- Raised by an arm of `exec` whose instruction has no meaning yet: none is left. Safe: the model stops. -/
  | notModelled (mnemonic : String)
deriving DecidableEq, Repr

/-- The state of the block, between two operations or inside one. The types of the collaborators' causes are type
parameters, as 00_scope.md R20 says; `State` alone, the name the host fixes, is `State BusCause PinCause`. -/
structure State (B : Type := BusCause) (P : Type := PinCause) where
  /-- The construction parameters, `L` among them (10_state.md R37; 70_reset_and_hazards.md R260): constant. -/
  params : Params
  /-- The active poll strategy (R33). -/
  strategy : Strategy
  /-- The chip-select level as last driven (R34). -/
  csLine : Line
  /-- The state of the poll machine (R35). -/
  phase : Phase
  /-- Every collaborator call made, oldest first (R38). -/
  trace : List (Event B P)
  /-- The sticky refusal mark (R40). -/
  refused : Bool
  /-- The 16-bit checksum accumulator `ACC` (R30), transient. -/
  acc : Word16
  /-- The command frame buffer `CMD` (R30), transient. -/
  cmd : CommandFrame
  /-- The buffer for one device's response, `RSP` (R30), transient. -/
  rsp : ResponseFrame
  /-- The read results `OUT` (R30), transient: inside READ the entries written so far, device 0 first. -/
  out : List Triple
  /-- The device counter `IDX`, 0 to L (R30), transient. -/
  idx : Nat
  /-- The index of the current host request, the stand-in for a program counter (R31). -/
  requestIndex : Nat
  /-- THE MODEL'S OWN: the host requests not yet taken, first issued first (60_exceptions.md R249). -/
  requests : List HostRequest
  /-- THE MODEL'S OWN: the responses returned to the host, oldest first (30_encoding.md R103). -/
  responses : List (Response B P)
  /-- THE MODEL'S OWN: the reasons of the refusals so far, oldest first (30_encoding.md R105). -/
  refusals : List RefuseReason
  /-- THE MODEL'S OWN: the environment's draws for the coming pin calls, first call first (60_exceptions.md R247). -/
  pinDraws : List (PinResult P)
  /-- THE MODEL'S OWN: the environment's draws for the coming bus transfers (R247). -/
  busDraws : List (BusResult B)
deriving DecidableEq, Repr

/-- The state construction leaves for given parameters (10_state.md R43, 70_reset_and_hazards.md R260). The transient
registers are unspecified there; zeros are the model's choice (log 1). The spec gives the request index no starting
value either: 0, no request answered yet, is the model's choice (DESIGN CHOICE, log 25). No request is issued yet, and
no draw is named: every outcome is a free value (log 9). -/
def State.ofParams {B P : Type} (p : Params) : State B P where
  params := p
  strategy := p.initialStrategy
  csLine := p.csInit
  phase := .idle
  trace := []
  refused := false
  acc := 0#16
  cmd := ⟨0#8, 0#8, 0#8, 0#8⟩
  rsp := ⟨0#8, 0#8, 0#8, 0#8, 0#8, 0#8, 0#8, 0#8⟩
  out := List.replicate p.chainLength ⟨0#16, 0#16, 0#16⟩
  idx := 0
  requestIndex := 0
  requests := []
  responses := []
  refusals := []
  pinDraws := []
  busDraws := []

/-- The machine right after reset: construction with the parameters of Machine/Defaults.lean. -/
def State.reset : State := State.ofParams defaultParams

end Sys2Proof.Machine
end

