-- ==== Sys2Proof/Machine/Flags.lean ====
section
/-! DEFINITION. The read-only observation word STATUS (10_state.md R41). The block has no condition codes (R32), and
no operation reads STATUS. -/

namespace Sys2Proof.Machine

open Sys2Proof

variable {B P : Type}

/-- STRAT: 0 = ReleaseImmediately, 1 = LineHold (R41). -/
def stratCode : Strategy → BitVec 1
  | .releaseImmediately => 0#1
  | .lineHold => 1#1

/-- CS: 0b00 = Deasserted, 0b01 = Asserted, 0b10 = Unknown; 0b11 is never produced (R41). -/
def csCode : Line → BitVec 2
  | .deasserted => 0b00#2
  | .asserted => 0b01#2
  | .unknown => 0b10#2

/-- PHASE: 0 = Idle, 1 = Polling (R41). -/
def phaseCode : Phase → BitVec 1
  | .idle => 0#1
  | .polling => 1#1

/-- STATUS: [0] STRAT, [2:1] CS, [3] PHASE, [4] REFUSED, [31:5] = 0 (R41). -/
def status (s : State B P) : BitVec 32 :=
  0#27 ++ BitVec.ofBool s.refused ++ phaseCode s.phase ++ csCode s.csLine ++ stratCode s.strategy

end Sys2Proof.Machine
end

