-- ==== Sys2Proof/Machine/Operands.lean ====
section
/-! DEFINITION. Operand and byte-sequence forms: byte order (00_scope.md R23, R24; 20_memory.md R61 to R64), the bytes
of the fixed frames (30_encoding.md R91, R92), the parameters an operand selects (R16, R17), and the bytes a transfer
receives (00_scope.md R26). -/

namespace Sys2Proof.Machine

open Sys2Proof

variable {B P : Type}

/-- `hi(v) = v[15:8]` (R23). -/
def hiByte (v : Word16) : Byte := v.extractLsb' 8 8

/-- `lo(v) = v[7:0]` (R23). -/
def loByte (v : Word16) : Byte := v.extractLsb' 0 8

/-- `be16(v) = [hi(v), lo(v)]` (R24): the wire order of an opcode and of a checksum (20_memory.md R61, R62). -/
def be16 (v : Word16) : List Byte := [hiByte v, loByte v]

/-- `le16(b0, b1) = zext_16(b0) | (zext_16(b1) << 8)` (R24): the order of a payload value (20_memory.md R63). -/
def le16 (b0 b1 : Byte) : Word16 := b0.setWidth 16 ||| (b1.setWidth 16 <<< 8)

/-- The bytes of a 16-bit value on the host channel, low byte first (30_encoding.md R103). -/
def leBytes (v : Word16) : List Byte := [loByte v, hiByte v]

/-- The bytes of a command frame in wire order, `b0` first (30_encoding.md R91). -/
def commandBytes (f : CommandFrame) : List Byte := [f.b0, f.b1, f.b2, f.b3]

/-- The payload `r[0..6]` of a response frame (30_encoding.md R92). -/
def payload (r : ResponseFrame) : List Byte := [r.r0, r.r1, r.r2, r.r3, r.r4, r.r5]

/-- The response frame of 8 received bytes, `r0` received first (30_encoding.md R92). A device transfer receives
exactly 8 bytes (`receivedBytes`), so the default 0 is never read there. -/
def responseFrameOf (rx : List Byte) : ResponseFrame :=
  ⟨rx.getD 0 0, rx.getD 1 0, rx.getD 2 0, rx.getD 3 0, rx.getD 4 0, rx.getD 5 0, rx.getD 6 0, rx.getD 7 0⟩

/-- `OPCODE_OF(reg)` (00_scope.md R16). -/
def opcodeOf (t : OpcodeTable) : RegisterGroup → Word16
  | .cfga => t.cfga
  | .cfgb => t.cfgb
  | .cva => t.cva
  | .cvb => t.cvb
  | .cvc => t.cvc
  | .cvd => t.cvd
  | .cve => t.cve
  | .cvf => t.cvf
  | .auxa => t.auxa
  | .auxb => t.auxb
  | .auxc => t.auxc
  | .auxd => t.auxd
  | .stata => t.stata
  | .statb => t.statb
  | .pwm => t.pwm

/-- `ch ∈ SUPPORTED_CH` (00_scope.md R17). CH = 7 never is (30_encoding.md R96). -/
def supportsCh (p : Params) (ch : BitVec 3) : Bool := p.supportedCh.any fun k => k.val == ch.toNat

/-- `reg ∈ SUPPORTED_GROUPS` (00_scope.md R17). -/
def supportsGroup (p : Params) (g : RegisterGroup) : Bool := p.supportedGroups.any fun h => h == g

/-- The register group a READ is admitted for: REG at most 14 and in SUPPORTED_GROUPS (42_transfer.md R180). -/
def admittedGroup (p : Params) (reg : BitVec 5) : Option RegisterGroup :=
  match registerGroupOf reg with
  | some g => if supportsGroup p g then some g else none
  | none => none

/-- The `n` bytes a transfer receives when the environment draws `rx` for it, `k` calls having been made: byte `i` is
`rx[i]`. A draw of another length is no draw of R247 ("of the right length"): the bytes it lacks are free values
(DESIGN CHOICE, log 9). -/
def receivedBytes (n k : Nat) (rx : List Byte) : List Byte :=
  (List.range n).map fun i => (rx[i]?).getD (Config.freeRxByte k i)

/-- A bus draw cut to the length of its transfer. -/
def fitResult (n k : Nat) : BusResult B → BusResult B
  | .ok rx => .ok (receivedBytes n k rx)
  | .err c => .err c

end Sys2Proof.Machine
end

