-- ==== Sys2Proof/Machine/Ops.lean ====
section
/-! DEFINITION. The operations every meaning is built from: the collaborator primitives (00_scope.md R26), the
sub-sequences RELEASE and FAIL (42_transfer.md R170, R171), the response and the refusal (00_scope.md R27). The block
has no trap (60_exceptions.md): an error's entry is `State.fail`, and its return is the host's next request (R238). -/

namespace Sys2Proof.Machine

open Sys2Proof

variable {B P : Type}

/-! ### The collaborator primitives (00_scope.md R26) -/

/-- The level a pin call leaves: the driven level on Ok, Unknown on Err (10_state.md R34). -/
def levelAfter (driven : Line) : PinResult P → Line
  | .ok => driven
  | .err _ => .unknown

/-- The outcome of the next pin call: the environment's draw (60_exceptions.md R247), a free value where the list
names none. The number of calls made so far is the sequencer's position (10_state.md R31; log 9). -/
def State.pinDraw (s : State B P) : PinResult P := s.pinDraws.headD (Config.freePinResult s.trace.length)

/-- The outcome of the next bus transfer, of `n` bytes (60_exceptions.md R247). -/
def State.busDraw (n : Nat) (s : State B P) : BusResult B :=
  fitResult n s.trace.length (s.busDraws.headD (Config.freeBusResult s.trace.length))

/-- `PinSetLow()`, with the outcome `s.pinDraw`. -/
def State.pinSetLow (s : State B P) : State B P :=
  { s with
    csLine := levelAfter .asserted s.pinDraw
    trace := s.trace ++ [.pinLow s.pinDraw]
    pinDraws := s.pinDraws.tail }

/-- `PinSetHigh()`, with the outcome `s.pinDraw`. -/
def State.pinSetHigh (s : State B P) : State B P :=
  { s with
    csLine := levelAfter .deasserted s.pinDraw
    trace := s.trace ++ [.pinHigh s.pinDraw]
    pinDraws := s.pinDraws.tail }

/-- `BusTransfer(tx)`, with the outcome `s.busDraw tx.length`. -/
def State.busTransfer (tx : List Byte) (s : State B P) : State B P :=
  { s with
    trace := s.trace ++ [.xfer tx (s.busDraw tx.length)]
    busDraws := s.busDraws.tail }

/-! ### Field writes -/

/-- The persistent phase in which the poll machine is seen between operations: CommandSent and Complete are
transient, "Complete is the instant of the concluding release, and Idle follows it at once" (43_strategy.md R210).
CommandSent lasts only until its operation concludes, so it is never settled; it settles as Idle. DEDUCED
(log 20). -/
def settle : MachineState → Phase
  | .idle => .idle
  | .commandSent => .idle
  | .polling => .polling
  | .complete => .idle

def State.setPhase (m : MachineState) (s : State B P) : State B P := { s with phase := settle m }

def State.setStrategy (t : Strategy) (s : State B P) : State B P := { s with strategy := t }

def State.setAcc (v : Word16) (s : State B P) : State B P := { s with acc := v }

def State.setCmd (f : CommandFrame) (s : State B P) : State B P := { s with cmd := f }

def State.setRsp (r : ResponseFrame) (s : State B P) : State B P := { s with rsp := r }

/-- Begin a read's results: no entry of OUT written, IDX = 0. -/
def State.clearOut (s : State B P) : State B P := { s with out := [], idx := 0 }

/-- `OUT[IDX] <- v`, and the next device (42_transfer.md R181). -/
def State.storeOut (v : Triple) (s : State B P) : State B P := { s with out := s.out ++ [v], idx := s.idx + 1 }

/-! ### The end of an operation -/

/-- The transient registers after an operation: unspecified (10_state.md R30; 60_exceptions.md R237 d), so free
values, within the widths R30 gives: OUT holds L triples, IDX is 0 to L. DEDUCED (log 13). -/
def State.abandonBuffers (s : State B P) : State B P :=
  { s with
    acc := Config.freeAcc s.requestIndex
    cmd := ⟨Config.freeCmd s.requestIndex 0, Config.freeCmd s.requestIndex 1, Config.freeCmd s.requestIndex 2,
      Config.freeCmd s.requestIndex 3⟩
    rsp := ⟨Config.freeRsp s.requestIndex 0, Config.freeRsp s.requestIndex 1, Config.freeRsp s.requestIndex 2,
      Config.freeRsp s.requestIndex 3, Config.freeRsp s.requestIndex 4, Config.freeRsp s.requestIndex 5,
      Config.freeRsp s.requestIndex 6, Config.freeRsp s.requestIndex 7⟩
    out := (List.range s.params.chainLength).map (Config.freeOut s.requestIndex)
    idx := Config.freeIdx s.requestIndex % (s.params.chainLength + 1) }

/-- Return one response to the host: the request index advances by one (10_state.md R31). -/
def State.respond (r : Response B P) (s : State B P) : State B P :=
  { s with
    responses := s.responses ++ [r]
    requestIndex := s.requestIndex + 1 }

/-- End an operation that used the transient registers. -/
def State.conclude (r : Response B P) (s : State B P) : State B P := s.abandonBuffers.respond r

/-- `refuse(reason)`: the refusal mark is set, no call is made, nothing else of the block changes and no response is
returned (00_scope.md R27, 60_exceptions.md R231); the request index advances past it (10_state.md R31). -/
def State.refuse (why : RefuseReason) (s : State B P) : State B P :=
  { s with
    refused := true
    refusals := s.refusals ++ [why]
    requestIndex := s.requestIndex + 1 }

/-! ### RELEASE and FAIL -/

/-- RELEASE (42_transfer.md R170): one PinSetHigh, with the outcome `s.pinDraw`, and the poll machine through Complete
to Idle "whether or not the call succeeded". -/
def State.release (s : State B P) : State B P := s.pinSetHigh.setPhase .complete

/-- FAIL (42_transfer.md R171): release, then raise. The release's own outcome is not reported (60_exceptions.md
R236; log 17). This is the one error entry of the transfer engine (R232 to R234). -/
def State.fail (e : Error B P) (s : State B P) : State B P := s.release.conclude (.err e)

/-- The concluding release of a successful path: the value on Ok, ChipSelectFailure with the call's cause on Err
(42_transfer.md R175, R181, R187; 60_exceptions.md R233). -/
def State.releaseAndReturn (v : Value) (s : State B P) : State B P :=
  s.release.conclude <|
    match s.pinDraw with
    | .ok => .ok v
    | .err p => .err (.chipSelectFailure p)

/-- A part of an operation either goes on from a state, or has ended the operation in one. -/
inductive Flow (B P : Type) where
  | running (s : State B P)
  | ended (s : State B P)
deriving DecidableEq, Repr

/-- Continue a running operation with `k`. -/
def Flow.andThen (f : Flow B P) (k : State B P → State B P) : State B P :=
  match f with
  | .running s => k s
  | .ended s => s

end Sys2Proof.Machine
end

