-- ==== Sys2Proof/Machine/Checksum.lean ====
section
/-! DEFINITION. The checksum engine (40_checksum.md): the table `T` (R132, R133), the table-driven CALC (R131), its
bit-serial form (R134), and the meaning of the CALC request. -/

namespace Sys2Proof.Machine

open Sys2Proof

variable {B P : Type}

/-- `PEC_SEED` (00_scope.md R12). -/
def pecSeed : Word16 := 0x0010#16

/-- `PEC_POLY`, without its x^15 term (00_scope.md R13). -/
def pecPoly : Word16 := 0x4599#16

/-! ### The table -/

/-- Row 0x00 of R133. -/
def pecRow0 : List Word16 :=
  [0x0000#16, 0x4599#16, 0x4EAB#16, 0x0B32#16, 0x58CF#16, 0x1D56#16, 0x1664#16, 0x53FD#16,
   0x7407#16, 0x319E#16, 0x3AAC#16, 0x7F35#16, 0x2CC8#16, 0x6951#16, 0x6263#16, 0x27FA#16]

/-- Row 0x10 of R133. -/
def pecRow1 : List Word16 :=
  [0x2D97#16, 0x680E#16, 0x633C#16, 0x26A5#16, 0x7558#16, 0x30C1#16, 0x3BF3#16, 0x7E6A#16,
   0x5990#16, 0x1C09#16, 0x173B#16, 0x52A2#16, 0x015F#16, 0x44C6#16, 0x4FF4#16, 0x0A6D#16]

/-- Row 0x20 of R133. -/
def pecRow2 : List Word16 :=
  [0x5B2E#16, 0x1EB7#16, 0x1585#16, 0x501C#16, 0x03E1#16, 0x4678#16, 0x4D4A#16, 0x08D3#16,
   0x2F29#16, 0x6AB0#16, 0x6182#16, 0x241B#16, 0x77E6#16, 0x327F#16, 0x394D#16, 0x7CD4#16]

/-- Row 0x30 of R133. -/
def pecRow3 : List Word16 :=
  [0x76B9#16, 0x3320#16, 0x3812#16, 0x7D8B#16, 0x2E76#16, 0x6BEF#16, 0x60DD#16, 0x2544#16,
   0x02BE#16, 0x4727#16, 0x4C15#16, 0x098C#16, 0x5A71#16, 0x1FE8#16, 0x14DA#16, 0x5143#16]

/-- Row 0x40 of R133. -/
def pecRow4 : List Word16 :=
  [0x73C5#16, 0x365C#16, 0x3D6E#16, 0x78F7#16, 0x2B0A#16, 0x6E93#16, 0x65A1#16, 0x2038#16,
   0x07C2#16, 0x425B#16, 0x4969#16, 0x0CF0#16, 0x5F0D#16, 0x1A94#16, 0x11A6#16, 0x543F#16]

/-- Row 0x50 of R133. -/
def pecRow5 : List Word16 :=
  [0x5E52#16, 0x1BCB#16, 0x10F9#16, 0x5560#16, 0x069D#16, 0x4304#16, 0x4836#16, 0x0DAF#16,
   0x2A55#16, 0x6FCC#16, 0x64FE#16, 0x2167#16, 0x729A#16, 0x3703#16, 0x3C31#16, 0x79A8#16]

/-- Row 0x60 of R133. -/
def pecRow6 : List Word16 :=
  [0x28EB#16, 0x6D72#16, 0x6640#16, 0x23D9#16, 0x7024#16, 0x35BD#16, 0x3E8F#16, 0x7B16#16,
   0x5CEC#16, 0x1975#16, 0x1247#16, 0x57DE#16, 0x0423#16, 0x41BA#16, 0x4A88#16, 0x0F11#16]

/-- Row 0x70 of R133. -/
def pecRow7 : List Word16 :=
  [0x057C#16, 0x40E5#16, 0x4BD7#16, 0x0E4E#16, 0x5DB3#16, 0x182A#16, 0x1318#16, 0x5681#16,
   0x717B#16, 0x34E2#16, 0x3FD0#16, 0x7A49#16, 0x29B4#16, 0x6C2D#16, 0x671F#16, 0x2286#16]

/-- Row 0x80 of R133. -/
def pecRow8 : List Word16 :=
  [0x2213#16, 0x678A#16, 0x6CB8#16, 0x2921#16, 0x7ADC#16, 0x3F45#16, 0x3477#16, 0x71EE#16,
   0x5614#16, 0x138D#16, 0x18BF#16, 0x5D26#16, 0x0EDB#16, 0x4B42#16, 0x4070#16, 0x05E9#16]

/-- Row 0x90 of R133. -/
def pecRow9 : List Word16 :=
  [0x0F84#16, 0x4A1D#16, 0x412F#16, 0x04B6#16, 0x574B#16, 0x12D2#16, 0x19E0#16, 0x5C79#16,
   0x7B83#16, 0x3E1A#16, 0x3528#16, 0x70B1#16, 0x234C#16, 0x66D5#16, 0x6DE7#16, 0x287E#16]

/-- Row 0xA0 of R133. -/
def pecRowA : List Word16 :=
  [0x793D#16, 0x3CA4#16, 0x3796#16, 0x720F#16, 0x21F2#16, 0x646B#16, 0x6F59#16, 0x2AC0#16,
   0x0D3A#16, 0x48A3#16, 0x4391#16, 0x0608#16, 0x55F5#16, 0x106C#16, 0x1B5E#16, 0x5EC7#16]

/-- Row 0xB0 of R133. -/
def pecRowB : List Word16 :=
  [0x54AA#16, 0x1133#16, 0x1A01#16, 0x5F98#16, 0x0C65#16, 0x49FC#16, 0x42CE#16, 0x0757#16,
   0x20AD#16, 0x6534#16, 0x6E06#16, 0x2B9F#16, 0x7862#16, 0x3DFB#16, 0x36C9#16, 0x7350#16]

/-- Row 0xC0 of R133. -/
def pecRowC : List Word16 :=
  [0x51D6#16, 0x144F#16, 0x1F7D#16, 0x5AE4#16, 0x0919#16, 0x4C80#16, 0x47B2#16, 0x022B#16,
   0x25D1#16, 0x6048#16, 0x6B7A#16, 0x2EE3#16, 0x7D1E#16, 0x3887#16, 0x33B5#16, 0x762C#16]

/-- Row 0xD0 of R133. -/
def pecRowD : List Word16 :=
  [0x7C41#16, 0x39D8#16, 0x32EA#16, 0x7773#16, 0x248E#16, 0x6117#16, 0x6A25#16, 0x2FBC#16,
   0x0846#16, 0x4DDF#16, 0x46ED#16, 0x0374#16, 0x5089#16, 0x1510#16, 0x1E22#16, 0x5BBB#16]

/-- Row 0xE0 of R133. -/
def pecRowE : List Word16 :=
  [0x0AF8#16, 0x4F61#16, 0x4453#16, 0x01CA#16, 0x5237#16, 0x17AE#16, 0x1C9C#16, 0x5905#16,
   0x7EFF#16, 0x3B66#16, 0x3054#16, 0x75CD#16, 0x2630#16, 0x63A9#16, 0x689B#16, 0x2D02#16]

/-- Row 0xF0 of R133. -/
def pecRowF : List Word16 :=
  [0x276F#16, 0x62F6#16, 0x69C4#16, 0x2C5D#16, 0x7FA0#16, 0x3A39#16, 0x310B#16, 0x7492#16,
   0x5368#16, 0x16F1#16, 0x1DC3#16, 0x585A#16, 0x0BA7#16, 0x4E3E#16, 0x450C#16, 0x0095#16]

/-- The table `T[0..255]`, as R133 lists it: read-only and never written (10_state.md R39). -/
def pecTable : List Word16 :=
  pecRow0 ++ pecRow1 ++ pecRow2 ++ pecRow3 ++
    pecRow4 ++ pecRow5 ++ pecRow6 ++ pecRow7 ++
    pecRow8 ++ pecRow9 ++ pecRowA ++ pecRowB ++
    pecRowC ++ pecRowD ++ pecRowE ++ pecRowF

/-- One round of GEN (R132). -/
def genRound (r : Word16) : Word16 :=
  if r.getLsbD 14 then ((r <<< 1) &&& 0x7FFF#16) ^^^ pecPoly else (r <<< 1) &&& 0x7FFF#16

/-- GEN(i) (R132): the 15-bit remainder of i · x^15 modulo the generator. -/
def gen (i : Byte) : Word16 := Nat.rec (i.setWidth 16 <<< 7) (fun _ r => genRound r) 8

/-! ### CALC -/

/-- The index `((ACC >> 7) ^ zext_16(d[j])) & 0x00FF` of R131: bits [14:7] of ACC against the byte (90_conflicts.md
C1). -/
def pecIndex (acc : Word16) (b : Byte) : Word16 := ((acc >>> 7) ^^^ b.setWidth 16) &&& 0x00FF#16

/-- One byte of CALC (R131) with table `T`. -/
def pecStep (T : List Word16) (acc : Word16) (b : Byte) : Word16 :=
  (acc <<< 8) ^^^ T.getD (pecIndex acc b).toNat 0#16

/-- ACC after the bytes of `d` and the final 1-bit left shift (R131), with table `T`. -/
def pecRegister (T : List Word16) (d : List Byte) : Word16 := (d.foldl (pecStep T) pecSeed) <<< 1

/-- `CALC(d) = [hi, lo]` (R131). -/
def calcPec (d : List Byte) : List Byte := be16 (pecRegister pecTable d)

/-- One bit of CALC_BITS (R134), on the 15-bit register. -/
def pecBit (b : Byte) (r : BitVec 15) (k : Nat) : BitVec 15 :=
  if b.getLsbD k != r.getLsbD 14 then (r <<< 1) ^^^ pecPoly.setWidth 15 else r <<< 1

/-- One byte of CALC_BITS, its most significant bit first (R134). -/
def pecByteBits (r : BitVec 15) (b : Byte) : BitVec 15 := [7, 6, 5, 4, 3, 2, 1, 0].foldl (pecBit b) r

/-- CALC_BITS(d) (R134). -/
def calcBits (d : List Byte) : List Byte :=
  be16 ((d.foldl pecByteBits (pecSeed.setWidth 15)).setWidth 16 <<< 1)

/-- Run CALC over `d` in the register ACC. -/
def State.runCalc (d : List Byte) (s : State B P) : State B P := s.setAcc (pecRegister pecTable d)

/-- CALC (R130, R131): always succeeds, makes no call and leaves every persistent field (R136). The result is
`[ACC[15:8], ACC[7:0]]`. -/
def execCalc (d : List Byte) (s : State B P) : Host.Outcome (State B P) Fault Refusal :=
  .next ((s.runCalc d).conclude (.ok (.checksum (hiByte (s.runCalc d).acc) (loByte (s.runCalc d).acc))))

end Sys2Proof.Machine
end

