-- ==== Sys2Proof/Machine/Framing.lean ====
section
/-! DEFINITION. The command framer, the opcode composition of START_CONVERSION, and the response validator
(41_framing.md), with the meanings of the FRAME and VALIDATE requests. -/

namespace Sys2Proof.Machine

open Sys2Proof

variable {B P : Type}

/-! ### FRAME (R150 to R152) -/

/-- FRAME(opc) (R151): the opcode big-endian, then its checksum. -/
def frame (opc : Word16) : CommandFrame :=
  ⟨hiByte opc, loByte opc, (calcPec (be16 opc)).getD 0 0, (calcPec (be16 opc)).getD 1 0⟩

/-- Build a frame in the buffer CMD; CALC runs in ACC (R151). -/
def State.runFrame (opc : Word16) (s : State B P) : State B P := (s.runCalc (be16 opc)).setCmd (frame opc)

/-- FRAME (R150, R151): pure, no error. -/
def execFrame (opc : Word16) (s : State B P) : Host.Outcome (State B P) Fault Refusal :=
  .next ((s.runFrame opc).conclude (.ok (.frame (s.runFrame opc).cmd)))

/-! ### COMPOSE_ADCV (R153, R154) -/

/-- The mode field in place (R153). -/
def mdField (p : Params) (md : BitVec 2) : Word16 := md.setWidth 16 <<< p.mdShift.val

/-- The discharge permit in place (R153). -/
def dcpField (p : Params) (dcp : Bool) : Word16 := if dcp then 1#16 <<< p.dcpBit.val else 0#16

/-- COMPOSE_ADCV(md, ch, dcp) (R153). -/
def composeAdcv (p : Params) (md : BitVec 2) (ch : BitVec 3) (dcp : Bool) : Word16 :=
  p.adcvBase ||| mdField p md ||| dcpField p dcp ||| ch.setWidth 16

/-- `FIELDMASK = (3 << MD_SHIFT) | (1 << DCP_BIT) | 0x7` (00_scope.md R14). -/
def fieldMask (p : Params) : Word16 := mdField p 3#2 ||| dcpField p true ||| 0x7#16

/-- The start-conversion template is free of overlap: of the base with the fields (00_scope.md R14), and of the three
fields with each other ("bit ranges never overlap by construction", 70_reset_and_hazards.md R262). -/
def templateDisjoint (p : Params) : Bool :=
  (p.adcvBase &&& fieldMask p) == 0#16 && (mdField p 3#2 &&& dcpField p true) == 0#16
    && (mdField p 3#2 &&& 0x7#16) == 0#16 && (dcpField p true &&& 0x7#16) == 0#16

/-! ### VALIDATE and DECODE (R155 to R158) -/

/-- DECODE (R157): three little-endian values. -/
def decodePayload (r : ResponseFrame) : Triple := ⟨le16 r.r0 r.r1, le16 r.r2 r.r3, le16 r.r4 r.r5⟩

/-- VALIDATE (R156): the decoded values, or none for ChecksumMismatch; both checksum bytes compared exactly. -/
def validate (r : ResponseFrame) : Option Triple :=
  if [r.r6, r.r7] = calcPec (payload r) then some (decodePayload r) else none

/-- The response a VALIDATE result is (R155, R156). -/
def validateResponse : Option Triple → Response B P
  | some t => .ok (.triple t)
  | none => .err .checksumMismatch

/-- VALIDATE (R155, R156): no collaborator call, no persistent field written; a failed check is the response
ChecksumMismatch (60_exceptions.md R234). CALC runs in ACC. -/
def execValidate (r : ResponseFrame) (s : State B P) : Host.Outcome (State B P) Fault Refusal :=
  .next ((s.runCalc (payload r)).conclude (validateResponse (validate r)))

end Sys2Proof.Machine
end

