-- ==== Sys2Proof/Machine/Strategy.lean ====
section
/-! DEFINITION. The poll-strategy state machine and the strategy switch (43_strategy.md). -/

namespace Sys2Proof.Machine

open Sys2Proof

variable {B P : Type}

/-- Where the poll machine goes from CommandSent (R210, R211): under ReleaseImmediately through Complete, under
LineHold to Polling. -/
def afterCommandSent : Strategy → MachineState
  | .releaseImmediately => .complete
  | .lineHold => .polling

/-- Whether a switch from `active` to `target` is admitted: only ReleaseImmediately to LineHold (R216). -/
def switchAdmitted (active target : Strategy) : Bool :=
  decide (active = .releaseImmediately) && decide (target = .lineHold)

/-- SWITCH_STRATEGY (R215): writes only `strategy` and makes no call. Every switch but ReleaseImmediately to LineHold
is refused (R216). -/
def execSwitch (target : Strategy) (s : State B P) : Host.Outcome (State B P) Fault Refusal :=
  .next (if switchAdmitted s.strategy target then (s.setStrategy target).respond (.ok .unit)
    else s.refuse .strategySwitchNotAdmitted)

end Sys2Proof.Machine
end

