-- ==== Sys2Proof/Machine/Transfer.lean ====
section
/-! DEFINITION. The transfer engine (42_transfer.md): the chip-select sequencer, the multi-device read, the poll, and
the meanings of STARTCONV, READ and POLL. The order of calls is normative (20_memory.md R73); each call is one
primitive of Machine/Ops.lean and one event of the trace. -/

namespace Sys2Proof.Machine

open Sys2Proof

variable {B P : Type}

/-- ASSERT_AND_SEND(opc) (R172): assert, frame, transmit 4 bytes. A failed call ends the operation by FAIL; the bytes
received during the command are discarded (20_memory.md R68). -/
def State.assertAndSend (opc : Word16) (s : State B P) : Flow B P :=
  match s.pinDraw with
  | .err p => .ended (s.pinSetLow.fail (.chipSelectFailure p))
  | .ok =>
    let framed := s.pinSetLow.runFrame opc
    let sent := framed.busTransfer (commandBytes framed.cmd)
    match framed.busDraw 4 with
    | .err b => .ended (sent.fail (.transferFailure b))
    | .ok _ => .running sent

/-! ### START_CONVERSION (R174 to R178) -/

/-- The conclusion of a transmitted start command by the active strategy (R175): ReleaseImmediately releases (R176),
LineHold keeps the line held and enters Polling (R177). -/
def State.concludeStart (s : State B P) : State B P :=
  match s.strategy with
  | .releaseImmediately => s.releaseAndReturn .unit
  | .lineHold => (s.setPhase (afterCommandSent .lineHold)).conclude (.ok .unit)

/-- START_CONVERSION(md, ch, dcp) (R175), admitted. -/
def State.startConversion (md : BitVec 2) (dcp : Bool) (ch : BitVec 3) (s : State B P) : State B P :=
  (s.assertAndSend (composeAdcv s.params md ch dcp)).andThen State.concludeStart

/-- STARTCONV (R174, R175): refused, before any call, when CH is not in SUPPORTED_CH. -/
def execStartconv (md : BitVec 2) (dcp : Bool) (ch : BitVec 3) (s : State B P) : Host.Outcome (State B P) Fault Refusal :=
  .next (if supportsCh s.params ch then s.startConversion md dcp ch else s.refuse .unsupportedCellSelection)

/-! ### READ_REGISTER_GROUP (R180 to R184) -/

/-- `READ_FILL` (00_scope.md R18). -/
def readFill : Byte := 0xFF#8

/-- The bytes transmitted in one device read: `[READ_FILL] × 8` (20_memory.md R68). -/
def readTx : List Byte := List.replicate 8 readFill

/-- The device loop of R181, for `n` more devices in chain order (R183): one 8-byte transfer each, checked before the
next; the first failed transfer or check ends the operation (R182). -/
def State.readDevices : Nat → State B P → Flow B P
  | 0, s => .running s
  | n + 1, s =>
    match s.busDraw 8 with
    | .err b => .ended ((s.busTransfer readTx).fail (.transferFailure b))
    | .ok rx =>
      let got := (s.busTransfer readTx).setRsp (responseFrameOf rx)
      let checked := got.runCalc (payload got.rsp)
      match validate got.rsp with
      | none => .ended (checked.fail .checksumMismatch)
      | some v => State.readDevices n (checked.storeOut v)

/-- The end of R181: release, and the triples of all devices. -/
def State.concludeRead (s : State B P) : State B P := s.releaseAndReturn (.triples s.out)

/-- READ_REGISTER_GROUP(reg) (R181), admitted. -/
def State.readRegisterGroup (g : RegisterGroup) (s : State B P) : State B P :=
  (s.assertAndSend (opcodeOf s.params.opcodeOf g)).andThen fun sent =>
    (sent.clearOut.readDevices sent.params.chainLength).andThen State.concludeRead

/-- READ (R180, R181): refused, before any call, when REG is above 14 or not in SUPPORTED_GROUPS. -/
def execRead (reg : BitVec 5) (s : State B P) : Host.Outcome (State B P) Fault Refusal :=
  .next (match admittedGroup s.params reg with
    | some g => s.readRegisterGroup g
    | none => s.refuse .unsupportedRegisterGroup)

/-! ### POLL_CONVERSION_DONE (R186 to R191) -/

/-- The byte a poll transmits, and the idle sample: all-ones (00_scope.md R21). -/
def allOnes : Byte := 0xFF#8

/-- POLL_CONVERSION_DONE (R187), admitted: one 1-byte transfer; 0xFF releases the line and reports true (R188), any
other byte reports false and makes no pin call (R189), a failed transfer is TransferFailure through FAIL (R190). -/
def State.pollConversionDone (s : State B P) : State B P :=
  match s.busDraw 1 with
  | .err b => (s.busTransfer [allOnes]).fail (.transferFailure b)
  | .ok rx =>
    if rx = [allOnes] then (s.busTransfer [allOnes]).releaseAndReturn (.done true)
    else (s.busTransfer [allOnes]).conclude (.ok (.done false))

/-- POLL (R186, R187): refused, before any call, unless the strategy is LineHold. -/
def execPoll (s : State B P) : Host.Outcome (State B P) Fault Refusal :=
  .next (match s.strategy with
    | .releaseImmediately => s.refuse .pollWithoutLineHold
    | .lineHold => s.pollConversionDone)

end Sys2Proof.Machine
end

