-- ==== Sys2Proof/Machine/Dispatch.lean ====
section
/-! DEFINITION. One arm per constructor of `Instr` (spec/opcode_table.json). -/

namespace Sys2Proof.Machine

open Sys2Proof

def exec (i : Instr) (s : State) : Host.Outcome State Fault Refusal :=
  match i with
  | .calcPec d => Sys2Proof.Machine.execCalc d s
  | .frame opc => Sys2Proof.Machine.execFrame opc s
  | .validate r => Sys2Proof.Machine.execValidate r s
  | .startconv md dcp ch => Sys2Proof.Machine.execStartconv md dcp ch s
  | .read reg => Sys2Proof.Machine.execRead reg s
  | .poll => Sys2Proof.Machine.execPoll s
  | .switch target => Sys2Proof.Machine.execSwitch target s

end Sys2Proof.Machine
end

