-- ==== Sys2Proof/Machine/Fetch.lean ====
section
/-! DEFINITION. Taking the next host request (10_state.md R31; 60_exceptions.md R249): what step does around `exec`. -/

namespace Sys2Proof.Machine

open Sys2Proof

variable {B P : Type}

/-- Take the oldest pending request from the host. -/
def State.takeRequest (s : State B P) : State B P := { s with requests := s.requests.tail }

/-- Run one request: decode it, then the operation; an illegal encoding is refused as ReservedEncoding
(30_encoding.md R105). -/
def runRequest (q : HostRequest) (s : State) : Host.Outcome State Fault Refusal :=
  match decode q with
  | .ok i => exec i s
  | .error _ => .next (s.refuse .reservedEncoding)

/-- One step: with no request pending the block "is idle and holds its persistent state" (60_exceptions.md R245);
else it takes the oldest request and runs it to its end (10_state.md R31; logs 10 and 12). -/
def stepState (s : State) : Host.Outcome State Fault Refusal :=
  match s.requests with
  | [] => .next s
  | q :: _ => runRequest q s.takeRequest

/-- The host issues one more request, after those already pending (60_exceptions.md R249). -/
def State.issue (q : HostRequest) (s : State B P) : State B P := { s with requests := s.requests ++ [q] }

/-- The request that `step` takes next. -/
def State.placeFirst (q : HostRequest) (s : State B P) : State B P := { s with requests := q :: s.requests }

end Sys2Proof.Machine
end

