-- ==== Sys2Proof/Machine/Step.lean ====
section
/-! DEFINITION. One step of the block, and placing an instruction where the next step takes it. -/

namespace Sys2Proof.Machine

open Sys2Proof

/-- One step: one host request, run to completion ("each operation either completes or fails before control returns
to the caller", 10_state.md R31). -/
def step (s : State) : Host.Outcome State Fault Refusal := stepState s

/-- `s` with the request of a table word as the host's next request. -/
def State.withFetchWord (s : State) (nbits w : Nat) : State := s.placeFirst (requestOfBits nbits w)

end Sys2Proof.Machine
end

