-- ==== Sys2Proof/Machine/Construct.lean ====
section
/-! DEFINITION. Construction, "the block's only reset" (70_reset_and_hazards.md R260 to R264). -/

namespace Sys2Proof.Machine

open Sys2Proof

variable {B P : Type}

/-- CONSTRUCT (R260): refused with L = 0 or with an overlapping start-conversion template (R262); else the state of
10_state.md R43 over the collaborators' coming draws. It makes no collaborator call (R261). A new instance over the
collaborators of an old state `s` is `construct p s.pinDraws s.busDraws` (R264; logs 7 and 21). -/
def construct (p : Params) (pins : List (PinResult P)) (buses : List (BusResult B)) : Except RefuseReason (State B P) :=
  if p.chainLength < 1 then .error .zeroChainLength
  else if templateDisjoint p then .ok { State.ofParams p with pinDraws := pins, busDraws := buses }
  else .error .overlappingOpcodeFields

end Sys2Proof.Machine
end

