-- ==== Sys2Proof/Machine/HostChannel.lean ====
section
/-! DEFINITION. The byte form of a response on the host channel (30_encoding.md R103, R104). -/

namespace Sys2Proof.Machine

open Sys2Proof

variable {B P : Type}

/-- Three values, each low byte first (R103). -/
def tripleBytes (t : Triple) : List Byte := leBytes t.v0 ++ leBytes t.v1 ++ leBytes t.v2

/-- The value bytes of an Ok response (R103). -/
def valueBytes : Value → List Byte
  | .checksum hi lo => [hi, lo]
  | .frame f => commandBytes f
  | .triple t => tripleBytes t
  | .unit => []
  | .triples ts => ts.flatMap tripleBytes
  | .done b => [if b then 0x01#8 else 0x00#8]

/-- The error codes (R104). -/
def errorCode : Error B P → Byte
  | .transferFailure _ => 0x01#8
  | .chipSelectFailure _ => 0x02#8
  | .checksumMismatch => 0x03#8

/-- The cause bytes of an Err response: a parameter of the host channel; ChecksumMismatch carries none (R103). -/
def causeBytes : Error B P → List Byte
  | .transferFailure c => Config.busCauseBytes c
  | .chipSelectFailure c => Config.pinCauseBytes c
  | .checksumMismatch => []

/-- A response on the host channel: the status byte, then the value or the cause (R103). -/
def responseBytes : Response B P → List Byte
  | .ok v => 0x00#8 :: valueBytes v
  | .err e => errorCode e :: causeBytes e

end Sys2Proof.Machine
end

