-- ==== Sys2Proof/Machine/HostProgram.lean ====
section
/-! DEFINITION. The host-side pseudo-instructions of 30_encoding.md R113: bounded control flow of the caller, of which
the block sees only the requests. -/

namespace Sys2Proof.Machine

open Sys2Proof

/-- WAITCONV k (R113): at most k POLL requests, stopping after the first response that is not `Ok(false)`. The last
response is the pseudo-instruction's result (log 24). -/
def waitConv : Nat → State → Host.Outcome State Fault Refusal
  | 0, s => .next s
  | k + 1, s =>
    match exec .poll s with
    | .next t => if t.responses = s.responses ++ [.ok (.done false)] then waitConv k t else .next t
    | other => other

/-- CONVERT (R113): STARTCONV, then, if it returned Ok, WAITCONV k. -/
def convert (md : BitVec 2) (dcp : Bool) (ch : BitVec 3) (k : Nat) (s : State) : Host.Outcome State Fault Refusal :=
  match exec (.startconv md dcp ch) s with
  | .next t => if t.responses = s.responses ++ [.ok .unit] then waitConv k t else .next t
  | other => other

end Sys2Proof.Machine
end

