-- ==== Sys2Proof/Safety.lean ====
section
/-! DEFINITION. The terms the claims use: how an operation ends (`Concludes`, `Refuses`), which draws the environment
makes (`Supplies`), the renaming of causes (`State.mapCauses`), the paths of 42_transfer.md R193 (`TransferPath`), and the invariant of the block (`State.Inv`). -/

namespace Sys2Proof.Machine

open Sys2Proof

variable {B C P Q : Type}

/-- A run has a meaning only while the refusal mark is clear (10_state.md R40, 70_reset_and_hazards.md R265). -/
def State.meaningful (s : State B P) : Prop := s.refused = false

/-! ### The environment's draws -/

/-- The environment's draws from `s` on are those of `calls`: the calls that `s` would make next have these outcomes
(60_exceptions.md R247). -/
def Supplies : List (Event B P) → State B P → Prop
  | [], _ => True
  | .pinLow r :: es, s => s.pinDraw = r ∧ Supplies es s.pinSetLow
  | .pinHigh r :: es, s => s.pinDraw = r ∧ Supplies es s.pinSetHigh
  | .xfer tx r :: es, s => s.busDraw tx.length = r ∧ Supplies es (s.busTransfer tx)

/-- Whether an event is a pin call. -/
def Event.isPin : Event B P → Bool
  | .pinLow _ => true
  | .pinHigh _ => true
  | .xfer _ _ => false

/-- Whether an event is a PinSetHigh. -/
def Event.isPinHigh : Event B P → Bool
  | .pinHigh _ => true
  | _ => false

/-! ### Renaming causes -/

/-- An outcome of a pin call with its cause renamed. -/
def renamePin (g : P → Q) : PinResult P → PinResult Q
  | .ok => .ok
  | .err c => .err (g c)

/-- An outcome of a transfer with its cause renamed. -/
def renameBus (f : B → C) : BusResult B → BusResult C
  | .ok rx => .ok rx
  | .err c => .err (f c)

/-- An event with its cause renamed. -/
def Event.mapCauses (f : B → C) (g : P → Q) : Event B P → Event C Q
  | .pinLow r => .pinLow (renamePin g r)
  | .pinHigh r => .pinHigh (renamePin g r)
  | .xfer tx r => .xfer tx (renameBus f r)

/-- An error with its cause renamed. -/
def Error.mapCauses (f : B → C) (g : P → Q) : Error B P → Error C Q
  | .transferFailure c => .transferFailure (f c)
  | .chipSelectFailure c => .chipSelectFailure (g c)
  | .checksumMismatch => .checksumMismatch

/-- A response with its cause renamed. -/
def Response.mapCauses (f : B → C) (g : P → Q) : Response B P → Response C Q
  | .ok v => .ok v
  | .err e => .err (e.mapCauses f g)

/-- A state with every cause in it renamed: those of the calls made, of the responses and of the draws to come
(00_scope.md R20). -/
def State.mapCauses (f : B → C) (g : P → Q) (s : State B P) : State C Q where
  params := s.params
  strategy := s.strategy
  csLine := s.csLine
  phase := s.phase
  trace := s.trace.map (Event.mapCauses f g)
  refused := s.refused
  acc := s.acc
  cmd := s.cmd
  rsp := s.rsp
  out := s.out
  idx := s.idx
  requestIndex := s.requestIndex
  requests := s.requests
  responses := s.responses.map (Response.mapCauses f g)
  refusals := s.refusals
  pinDraws := s.pinDraws.map (renamePin g)
  busDraws := s.busDraws.map (renameBus f)

/-! ### How an operation ends -/

/-- From `s`, an operation has made `calls` and returned `r`, and left `t` with the given line level and phase; every
other persistent field is as before, the request index has advanced, and the draws of the calls are used up. The
transient registers are unspecified (10_state.md R30). -/
structure Concludes (s t : State B P) (r : Response B P) (calls : List (Event B P)) (line : Line) (phase : Phase) : Prop where
  params : t.params = s.params
  strategy : t.strategy = s.strategy
  csLine : t.csLine = line
  phase : t.phase = phase
  trace : t.trace = s.trace ++ calls
  refused : t.refused = s.refused
  requestIndex : t.requestIndex = s.requestIndex + 1
  requests : t.requests = s.requests
  responses : t.responses = s.responses ++ [r]
  refusals : t.refusals = s.refusals
  pinDraws : t.pinDraws = s.pinDraws.drop (calls.countP Event.isPin)
  busDraws : t.busDraws = s.busDraws.drop (calls.countP fun e => !e.isPin)

/-- A pure operation has returned `r`: no call, line and phase unchanged (92_eei_decisions.md D36). -/
abbrev ConcludesPurely (s t : State B P) (r : Response B P) : Prop := Concludes s t r [] s.csLine s.phase

/-- The request was refused for `why`: the mark is set, the reason kept, the index advanced, and nothing else changed
(60_exceptions.md R231). -/
def Refuses (s t : State B P) (why : RefuseReason) : Prop :=
  t = { s with refused := true, refusals := s.refusals ++ [why], requestIndex := s.requestIndex + 1 }

/-! ### The frames of a chain -/

/-- A response frame whose check passes (41_framing.md R156). -/
def validFrame (r : ResponseFrame) : Bool := decide ([r.r6, r.r7] = calcPec (payload r))

/-- The transfer of one device's frame (42_transfer.md R181). -/
def deviceEvent (r : ResponseFrame) : Event B P := .xfer readTx (.ok r.bytes)

/-- The frame that carries three values with their checksum (30_encoding.md R92). -/
def frameOfTriple (t : Triple) : ResponseFrame :=
  let p := leBytes t.v0 ++ leBytes t.v1 ++ leBytes t.v2
  responseFrameOf (p ++ calcPec p)

/-! ### The paths of R193 -/

/-- The response of an otherwise successful operation after its concluding release (60_exceptions.md R233). -/
def releaseResponse (v : Value) : PinResult P → Response B P
  | .ok => .ok v
  | .err p => .err (.chipSelectFailure p)

/-- The opcode a bus operation transmits, where it is admitted: START_CONVERSION (42_transfer.md R174), READ
(R180). -/
def admittedOpcode (p : Params) : Instr → Option Word16
  | .startconv md dcp ch => if supportsCh p ch then some (composeAdcv p md ch dcp) else none
  | .read reg => (admittedGroup p reg).map (opcodeOf p.opcodeOf)
  | _ => none

/-- The command transfer of an opcode. -/
def commandEvent (opc : Word16) (r : BusResult B) : Event B P := .xfer (commandBytes (frame opc)) r

/-- The rows of the table of 42_transfer.md R193: in a block with parameters `p` and strategy `g` whose line and phase
are `l` and `h`, operation `i` makes `calls`, returns `r` and leaves the line and the phase given last. -/
inductive TransferPath (p : Params) (g : Strategy) (l : Line) (h : Phase) :
    Instr → List (Event B P) → Response B P → Line → Phase → Prop where
  /-- START and READ, assert fails -/
  | assertFails (i : Instr) (opc : Word16) (c : P) (x : PinResult P) : admittedOpcode p i = some opc →
      TransferPath p g l h i [.pinLow (.err c), .pinHigh x] (.err (.chipSelectFailure c)) (levelAfter .deasserted x) .idle
  /-- START and READ, command fails -/
  | commandFails (i : Instr) (opc : Word16) (b : B) (x : PinResult P) : admittedOpcode p i = some opc →
      TransferPath p g l h i [.pinLow .ok, commandEvent opc (.err b), .pinHigh x] (.err (.transferFailure b))
        (levelAfter .deasserted x) .idle
  /-- START under ReleaseImmediately: ok, or release fails -/
  | startReleases (md : BitVec 2) (dcp : Bool) (ch : BitVec 3) (opc : Word16) (rx : List Byte) (x : PinResult P) :
      admittedOpcode p (.startconv md dcp ch) = some opc → g = .releaseImmediately → rx.length = 4 →
      TransferPath p g l h (.startconv md dcp ch) [.pinLow .ok, commandEvent opc (.ok rx), .pinHigh x]
        (releaseResponse .unit x) (levelAfter .deasserted x) .idle
  /-- START under LineHold, ok -/
  | startHolds (md : BitVec 2) (dcp : Bool) (ch : BitVec 3) (opc : Word16) (rx : List Byte) :
      admittedOpcode p (.startconv md dcp ch) = some opc → g = .lineHold → rx.length = 4 →
      TransferPath p g l h (.startconv md dcp ch) [.pinLow .ok, commandEvent opc (.ok rx)] (.ok .unit) .asserted .polling
  /-- READ, the transfer of device k = fs.length fails -/
  | deviceFails (reg : BitVec 5) (opc : Word16) (rx : List Byte) (fs : List ResponseFrame) (b : B)
      (x : PinResult P) : admittedOpcode p (.read reg) = some opc → rx.length = 4 → fs.length < p.chainLength →
      (∀ f ∈ fs, validFrame f = true) →
      TransferPath p g l h (.read reg)
        ([.pinLow .ok, commandEvent opc (.ok rx)] ++ fs.map deviceEvent ++ [.xfer readTx (.err b), .pinHigh x])
        (.err (.transferFailure b)) (levelAfter .deasserted x) .idle
  /-- READ, the frame of device k = fs.length fails its check -/
  | deviceMismatches (reg : BitVec 5) (opc : Word16) (rx : List Byte) (fs : List ResponseFrame) (bad : ResponseFrame)
      (x : PinResult P) : admittedOpcode p (.read reg) = some opc → rx.length = 4 → fs.length < p.chainLength →
      (∀ f ∈ fs, validFrame f = true) → validFrame bad = false →
      TransferPath p g l h (.read reg)
        ([.pinLow .ok, commandEvent opc (.ok rx)] ++ fs.map deviceEvent ++ [deviceEvent bad, .pinHigh x])
        (.err .checksumMismatch) (levelAfter .deasserted x) .idle
  /-- READ: ok, or release fails -/
  | readReturns (reg : BitVec 5) (opc : Word16) (rx : List Byte) (fs : List ResponseFrame) (x : PinResult P) :
      admittedOpcode p (.read reg) = some opc → rx.length = 4 → fs.length = p.chainLength →
      (∀ f ∈ fs, validFrame f = true) →
      TransferPath p g l h (.read reg)
        ([.pinLow .ok, commandEvent opc (.ok rx)] ++ fs.map deviceEvent ++ [.pinHigh x])
        (releaseResponse (.triples (fs.map decodePayload)) x) (levelAfter .deasserted x) .idle
  /-- POLL, sample fails -/
  | sampleFails (b : B) (x : PinResult P) : g = .lineHold →
      TransferPath p g l h .poll [.xfer [allOnes] (.err b), .pinHigh x] (.err (.transferFailure b))
        (levelAfter .deasserted x) .idle
  /-- POLL, 0xFF: ok, or release fails -/
  | sampleIdle (x : PinResult P) : g = .lineHold →
      TransferPath p g l h .poll [.xfer [allOnes] (.ok [allOnes]), .pinHigh x] (releaseResponse (.done true) x)
        (levelAfter .deasserted x) .idle
  /-- POLL, not 0xFF -/
  | sampleBusy (b : Byte) : g = .lineHold → b ≠ allOnes →
      TransferPath p g l h .poll [.xfer [allOnes] (.ok [b])] (.ok (.done false)) l h

/-! ### The invariant -/

/-- A legal choice of parameters (00_scope.md R10, R14; 70_reset_and_hazards.md R262). -/
def paramsWellFormed (p : Params) : Prop := 1 ≤ p.chainLength ∧ templateDisjoint p = true

/-- The level of the line after a history of calls, from the level handed over at construction (10_state.md R34). -/
def lineAfterTrace (init : Line) (es : List (Event B P)) : Line :=
  es.foldl (fun l e => match e with
    | .pinLow r => levelAfter .asserted r
    | .pinHigh r => levelAfter .deasserted r
    | .xfer _ _ => l) init

/-- The opcodes the block may transmit: an admitted start command, or the read opcode of a supported group
(30_encoding.md R106, 20_memory.md R68). -/
def transmittable (p : Params) (opc : Word16) : Prop :=
  (∃ md dcp ch, supportsCh p ch = true ∧ opc = composeAdcv p md ch dcp) ∨
    (∃ g, supportsGroup p g = true ∧ opc = opcodeOf p.opcodeOf g)

/-- The transfers the block may make: the rows of 20_memory.md R68, each receiving as many bytes as it sends. -/
def lawfulEvent (p : Params) : Event B P → Prop
  | .pinLow _ => True
  | .pinHigh _ => True
  | .xfer tx r =>
    ((∃ opc, transmittable p opc ∧ tx = commandBytes (frame opc)) ∨ tx = readTx ∨ tx = [allOnes]) ∧
      (∀ rx, r = .ok rx → rx.length = tx.length)

/-- What holds of the block between any two operations. -/
structure State.Inv (s : State B P) : Prop where
  /-- L ≥ 1 and a template free of overlap (00_scope.md R10, R14). -/
  params : paramsWellFormed s.params
  /-- 10_state.md R36 (a). -/
  pollingHoldsLine : s.phase = .polling → s.strategy = .lineHold ∧ s.csLine = .asserted
  /-- 10_state.md R36 (b). -/
  assertedExplained : s.csLine = .asserted →
    s.phase = .polling ∨ (s.trace.any Event.isPin = false ∧ s.params.csInit = .asserted)
  /-- `cs_line` is the level as the block last drove it (R34). -/
  lineMatchesTrace : s.csLine = lineAfterTrace s.params.csInit s.trace
  /-- Only the transfers of 20_memory.md R68 are made, each command with its PEC (41_framing.md R152). -/
  traceLawful : ∀ e ∈ s.trace, lawfulEvent s.params e
  /-- The refusal mark records that some request was refused (R40). -/
  refusedMark : s.refused = true ↔ s.refusals ≠ []
  /-- Each request so far has had one response or one refusal (R31). -/
  answered : s.responses.length + s.refusals.length = s.requestIndex
  /-- The widths of the transient registers OUT and IDX (R30). -/
  outWidth : s.out.length = s.params.chainLength
  idxWidth : s.idx ≤ s.params.chainLength

end Sys2Proof.Machine
end

