-- ==== Sys2Proof/Certificates/Slice0/Obligations.lean ====
section
/-! DEFINITION. The statements for the provers. A statement about every state holds for every choice of construction
parameters and for every sequence of environment draws (60_exceptions.md R247): `Supplies calls s` only names the
draws that `s` meets. `Concludes` says what an operation leaves AND its frame: every persistent field, the draws used
up, the response. -/

open Sys2Proof Sys2Proof.Machine

/-! ### Construction, the invariant, the step -/

/-- Construction (70_reset_and_hazards.md R260, R261, R262; 10_state.md R43): refused for L = 0 and for an overlapping
template; else the state R43 lists, with no collaborator call. Checking that the three fields do not overlap EACH
OTHER follows R262's sentence, beyond R260's formula (log 7); that the request index starts at 0 and the lists of
answers empty is the model's choice (DESIGN CHOICE, logs 25 and 11). Rests on the spec's decision D21. -/
def Obligations.ConstructionRefusesOrLeavesInitialState : Prop :=
  ∀ (p : Params) (pins : List (PinResult PinCause)) (buses : List (BusResult BusCause)),
    (p.chainLength = 0 → construct p pins buses = .error .zeroChainLength) ∧
    (1 ≤ p.chainLength → templateDisjoint p = false → construct p pins buses = .error .overlappingOpcodeFields) ∧
    (1 ≤ p.chainLength → templateDisjoint p = true →
      ∃ s, construct p pins buses = .ok s ∧ s.params = p ∧ s.strategy = p.initialStrategy ∧ s.csLine = p.csInit ∧
        s.phase = .idle ∧ s.trace = [] ∧ s.refused = false ∧ s.requestIndex = 0 ∧ s.responses = [] ∧
        s.pinDraws = pins ∧ s.busDraws = buses)

/-- `State.reset` is the construction with the parameters of Machine/Defaults.lean, whose OPEN values are the model's
choice (logs 3, 4 and 5), as is the start of the request index (log 25); and every construction meets the invariant of
10_state.md R36. R36 is marked derived in the spec. -/
def Obligations.ConstructionMeetsInvariant : Prop :=
  construct defaultParams [] [] = .ok State.reset ∧ State.reset.Inv ∧
    ∀ (p : Params) (pins : List (PinResult PinCause)) (buses : List (BusResult BusCause)) (s : State),
      construct p pins buses = .ok s → s.Inv

/-- Every step keeps the invariant: 10_state.md R36 (a) and (b), the line as last driven (R34), only the transfers of
20_memory.md R68 with each command's PEC (41_framing.md R152), the refusal mark (R40), one answer per request (R31).
R36 is marked derived in the spec; R34, R38 and R40 are its decisions D14, D2 and D33. -/
def Obligations.StepKeepsInvariant : Prop :=
  ∀ s t : State, s.Inv → step s = .next t → t.Inv

/-- A step takes the oldest pending request and runs the operation it decodes to; an illegal encoding is refused
(30_encoding.md R105); with none pending the block holds its state (60_exceptions.md R245). The request queue is the
model's form of the host's request stream (10_state.md R31, log 10). Rests on the spec's decisions D3, D23 and D33. -/
def Obligations.StepRunsDecodedRequest : Prop :=
  (∀ (s : State) (q : HostRequest) (rest : List HostRequest) (i : Instr), s.requests = q :: rest → decode q = .ok i →
    step s = exec i { s with requests := rest }) ∧
  (∀ (s : State) (q : HostRequest) (rest : List HostRequest) (e : DecodeError), s.requests = q :: rest →
    decode q = .error e → ∃ t, step s = .next t ∧ Refuses { s with requests := rest } t .reservedEncoding) ∧
  (∀ s : State, s.requests = [] → step s = .next s)

/-- A table word placed as the next request is decoded and run by the next step. Placing a request is the model's own
(log 10). -/
def Obligations.FetchedTableWordRuns : Prop :=
  ∀ (s : State) (nbits w : Nat) (i : Instr), decodeTableWord nbits w = some i →
    step (s.withFetchWord nbits w) = exec i s

/-- Every step answers a next state: no error stops the block (60_exceptions.md R235) and every collaborator call
returns (R248, the spec's own choice D38). -/
def Obligations.StepAlwaysAnswers : Prop :=
  ∀ s : State, ∃ t, step s = .next t

/-! ### Encodings -/

/-- Words written out from 30_encoding.md R101 and R102 decode to their operations (95_test_vectors.md, section 7). The
host word is the spec's decision D23. -/
def Obligations.WrittenOutWordsDecode : Prop :=
  decode ⟨0b00000001000000000000000000000010#32, [0x00#8, 0x04#8]⟩ = .ok (.calcPec [0x00#8, 0x04#8]) ∧
  decode ⟨0b00000010000000001111111111111111#32, []⟩ = .ok (.frame 0xFFFF#16) ∧
  decode ⟨0b00000011000000000000000000000000#32, [1, 2, 3, 4, 5, 6, 7, 8]⟩ =
    .ok (.validate ⟨1, 2, 3, 4, 5, 6, 7, 8⟩) ∧
  decode ⟨0b00010000000000000000000000101011#32, []⟩ = .ok (.startconv 2#2 true 3#3) ∧
  decode ⟨0b00010001000000000000000000001110#32, []⟩ = .ok (.read 14#5) ∧
  decode ⟨0b00010010000000000000000000000000#32, []⟩ = .ok .poll ∧
  decode ⟨0b00100000000000000000000000000001#32, []⟩ = .ok (.switch .lineHold)

/-- Decoding the request of a well-formed instruction gives it back, every operand at every admitted value
(30_encoding.md R100 to R102, R107, R108). The host word is the spec's decision D23; R107 rests on its decision D26. -/
def Obligations.DecodeOfEncode : Prop :=
  ∀ i : Instr, i.wellFormed = true → decode (encode i) = .ok i

/-- Each request has one meaning: encoding what a request decodes to gives the word back, with the trailing bytes it
declares (30_encoding.md R107). That bytes beyond the declared ones are no part of the operand is the model's
reading (log 15). -/
def Obligations.DecodedRequestReencodes : Prop :=
  ∀ (q : HostRequest) (i : Instr), decode q = .ok i →
    encode i = ⟨q.word, q.data.take (declaredBytes q.word)⟩

/-- A request is decoded exactly when its word matches a row of spec/opcode_table.json and enough bytes follow
(30_encoding.md R105 a, b, g); the row is the decoded instruction's, and no word matches two rows. That bytes beyond
the declared ones are accepted is the model's reading (DEDUCED, log 15). Rests on the spec's decision D23. -/
def Obligations.DecodeSucceedsExactlyOnTableRows : Prop :=
  (∀ q : HostRequest, (∃ i, decode q = .ok i) ↔
    (∃ j, (opcodeRow j).admits q.word) ∧ declaredBytes q.word ≤ q.data.length) ∧
  (∀ (q : HostRequest) (i j : Instr), decode q = .ok i → (opcodeRow i).admits q.word ∧
    ((opcodeRow j).admits q.word → opcodeRow j = opcodeRow i))

/-! ### The checksum engine -/

/-- The table-driven CALC equals the bit-serial CRC-15 for every input (40_checksum.md R134). R134 is marked derived in
the spec; the polynomial and seed are its decisions D4 and D5. -/
def Obligations.CalcEqualsBitSerial : Prop :=
  ∀ d : List Byte, calcPec d = calcBits d

/-- The listed table is the generated one: T[i] = GEN(i), 256 entries of 15 bits, and only T[0] is zero (40_checksum.md
R132, R133). Rests on the spec's decision D5. -/
def Obligations.TableIsGenerated : Prop :=
  pecTable.length = 256 ∧ ∀ i : Byte, pecTable.getD i.toNat 0 = gen i ∧ (gen i).getLsbD 15 = false ∧
    (gen i = 0 → i = 0)

/-- Bit 15 of a table entry never affects CALC's result (40_checksum.md R133). The argument is R133's own inference. -/
def Obligations.TableBit15Immaterial : Prop :=
  ∀ T : List Word16, (∀ i : Byte, T.getD i.toNat 0 &&& 0x7FFF#16 = pecTable.getD i.toNat 0 &&& 0x7FFF#16) →
    ∀ d : List Byte, be16 (pecRegister T d) = calcPec d

/-- The code has 15 significant bits: the low byte of every checksum is even, and the checksum of no bytes is the seed
shifted left (40_checksum.md R135 a, b). R135 is marked derived in the spec. -/
def Obligations.CalcCodeIsEven : Prop :=
  calcPec [] = [0x00#8, 0x20#8] ∧
    ∀ d : List Byte, ∃ hi lo : Byte, calcPec d = [hi, lo] ∧ lo.getLsbD 0 = false

/-- CRC affinity (40_checksum.md R135 d). R135 is marked derived in the spec. -/
def Obligations.CalcIsAffine : Prop :=
  ∀ d e : List Byte, d.length = e.length →
    List.zipWith (· ^^^ ·) (calcPec d) (calcPec e) =
      List.zipWith (· ^^^ ·) (calcPec (List.zipWith (· ^^^ ·) d e)) (calcPec (List.replicate d.length 0#8))

/-- Changing any single bit of an input of any length changes its checksum (40_checksum.md R135 e). R135 is marked
derived in the spec. -/
def Obligations.SingleBitErrorChangesChecksum : Prop :=
  ∀ (d : List Byte) (j k : Nat), j < d.length → k < 8 →
    calcPec (d.modify j (· ^^^ (1#8 <<< k))) ≠ calcPec d

/-- CALC completes in every state with its checksum and writes no persistent state (40_checksum.md R130, R131, R136).
Rests on the spec's decision D36. -/
def Obligations.CalcRequestReturnsChecksum : Prop :=
  ∀ (d : List Byte) (s : State), ∃ t hi lo, exec (.calcPec d) s = .next t ∧ calcPec d = [hi, lo] ∧
    ConcludesPurely s t (.ok (.checksum hi lo))

/-! ### Framing and validation -/

/-- FRAME completes in every state with the frame of its opcode (41_framing.md R151). -/
def Obligations.FrameRequestReturnsFrame : Prop :=
  ∀ (opc : Word16) (s : State), ∃ t f, exec (.frame opc) s = .next t ∧ ConcludesPurely s t (.ok (.frame f)) ∧
    [f.b0, f.b1] = [opc.extractLsb' 8 8, opc.extractLsb' 0 8] ∧ [f.b2, f.b3] = calcPec [f.b0, f.b1]

/-- Every frame carries its PEC, bit 0 of its last byte is 0, and no two opcodes share a frame (41_framing.md R152).
Parts of R152 are marked derived in the spec. -/
def Obligations.FramesCarryTheirChecksum : Prop :=
  (∀ opc : Word16, (commandBytes (frame opc)).drop 2 = calcPec ((commandBytes (frame opc)).take 2) ∧
    (frame opc).b3.getLsbD 0 = false) ∧
  (∀ a b : Word16, frame a = frame b → a = b)

/-- For every legal template, the composed opcode is the sum of the base and the three fields, and the fields come back
out of it (41_framing.md R154); the default template gives the pattern of 30_encoding.md R95. R154 is marked derived
in the spec; the layout is its decision D6. -/
def Obligations.ComposedFieldsComeBack : Prop :=
  (∀ (p : Params) (md : BitVec 2) (ch : BitVec 3) (dcp : Bool), templateDisjoint p = true →
    (composeAdcv p md ch dcp).extractLsb' p.mdShift.val 2 = md ∧
    (composeAdcv p md ch dcp).getLsbD p.dcpBit.val = dcp ∧
    (composeAdcv p md ch dcp).extractLsb' 0 3 = ch ∧
    composeAdcv p md ch dcp = p.adcvBase + mdField p md + dcpField p dcp + ch.setWidth 16) ∧
  (∀ (md : BitVec 2) (ch : BitVec 3) (dcp : Bool), composeAdcv defaultParams md ch dcp &&& 0xFE68#16 = 0x0260#16)

/-- VALIDATE completes in every state: the three little-endian values (41_framing.md R157) of a frame whose checksum
bytes are right, and ChecksumMismatch for any other (R156), with no persistent state written (R155). VALIDATE as a
request and its writing nothing are the spec's decisions D25 and D36. -/
def Obligations.ValidateRequestChecksAndDecodes : Prop :=
  ∀ (r : ResponseFrame) (s : State), ∃ t, exec (.validate r) s = .next t ∧
    ConcludesPurely s t (if [r.r6, r.r7] = calcPec [r.r0, r.r1, r.r2, r.r3, r.r4, r.r5] then
      .ok (.triple ⟨r.r1 ++ r.r0, r.r3 ++ r.r2, r.r5 ++ r.r4⟩) else .err .checksumMismatch)

/-- Flipping any single bit of the payload or of the checksum of an accepted frame gives ChecksumMismatch, and a frame
with bit 0 of byte 7 set is never accepted (41_framing.md R158 a, b, c). R158 is marked derived in the spec. -/
def Obligations.CorruptedFramesAreRejected : Prop :=
  (∀ (r : ResponseFrame) (j k : Nat), validFrame r = true → j < 8 → k < 8 →
    validate (responseFrameOf (r.bytes.modify j (· ^^^ (1#8 <<< k)))) = none) ∧
  (∀ r : ResponseFrame, r.r7.getLsbD 0 = true → validate r = none)

/-- The frame of any three values is accepted and decodes to exactly them, and each accepted frame is the frame of its
values (41_framing.md R157). The round trip is marked derived in the spec (R157). -/
def Obligations.FramesRoundTrip : Prop :=
  (∀ t : Triple, validate (frameOfTriple t) = some t) ∧
  (∀ (r : ResponseFrame) (t : Triple), validate r = some t → frameOfTriple t = r)

/-! ### START_CONVERSION -/

/-- Under ReleaseImmediately an admitted START transmits its command and then deasserts: Ok when the release succeeds,
ChipSelectFailure with its cause when it fails (42_transfer.md R175, R176). -/
def Obligations.StartUnderReleaseImmediatelyReleases : Prop :=
  ∀ (s : State) (md : BitVec 2) (dcp : Bool) (ch : BitVec 3) (rx : List Byte) (x : PinResult PinCause),
    s.strategy = .releaseImmediately → supportsCh s.params ch = true →
    Supplies [.pinLow .ok, .xfer (commandBytes (frame (composeAdcv s.params md ch dcp))) (.ok rx), .pinHigh x] s →
    ∃ t, exec (.startconv md dcp ch) s = .next t ∧
      Concludes s t (match x with | .ok => .ok .unit | .err p => .err (.chipSelectFailure p))
        [.pinLow .ok, .xfer (commandBytes (frame (composeAdcv s.params md ch dcp))) (.ok rx), .pinHigh x]
        (match x with | .ok => .deasserted | .err _ => .unknown) .idle

/-- Under LineHold an admitted START whose command is transmitted makes no further call and keeps the line asserted,
phase Polling (42_transfer.md R177). -/
def Obligations.StartUnderLineHoldKeepsLine : Prop :=
  ∀ (s : State) (md : BitVec 2) (dcp : Bool) (ch : BitVec 3) (rx : List Byte),
    s.strategy = .lineHold → supportsCh s.params ch = true →
    Supplies [.pinLow .ok, .xfer (commandBytes (frame (composeAdcv s.params md ch dcp))) (.ok rx)] s →
    ∃ t, exec (.startconv md dcp ch) s = .next t ∧
      Concludes s t (.ok .unit) [.pinLow .ok, .xfer (commandBytes (frame (composeAdcv s.params md ch dcp))) (.ok rx)]
        .asserted .polling

/-- A START whose assert or command fails releases the line once and reports the first failure, under both strategies
(42_transfer.md R171, R178; 60_exceptions.md R236). Rests on the spec's decisions D12 and D13. -/
def Obligations.StartFailureReleases : Prop :=
  (∀ (s : State) (md : BitVec 2) (dcp : Bool) (ch : BitVec 3) (c : PinCause) (x : PinResult PinCause),
    supportsCh s.params ch = true → Supplies [.pinLow (.err c), .pinHigh x] s →
    ∃ t, exec (.startconv md dcp ch) s = .next t ∧
      Concludes s t (.err (.chipSelectFailure c)) [.pinLow (.err c), .pinHigh x] (levelAfter .deasserted x) .idle) ∧
  (∀ (s : State) (md : BitVec 2) (dcp : Bool) (ch : BitVec 3) (b : BusCause) (x : PinResult PinCause),
    supportsCh s.params ch = true →
    Supplies [.pinLow .ok, .xfer (commandBytes (frame (composeAdcv s.params md ch dcp))) (.err b), .pinHigh x] s →
    ∃ t, exec (.startconv md dcp ch) s = .next t ∧
      Concludes s t (.err (.transferFailure b))
        [.pinLow .ok, .xfer (commandBytes (frame (composeAdcv s.params md ch dcp))) (.err b), .pinHigh x]
        (levelAfter .deasserted x) .idle)

/-- A START with CH outside SUPPORTED_CH is refused before any call, and CH = 7 always is (42_transfer.md R174). Rests
on the spec's decisions D8 and D33. -/
def Obligations.StartRefusesUnsupportedCells : Prop :=
  (∀ (s : State) (md : BitVec 2) (dcp : Bool) (ch : BitVec 3), supportsCh s.params ch = false →
    ∃ t, exec (.startconv md dcp ch) s = .next t ∧ Refuses s t .unsupportedCellSelection) ∧
  (∀ p : Params, supportsCh p 7#3 = false)

/-! ### READ_REGISTER_GROUP -/

/-- When every device returns a valid frame, an admitted READ returns the L triples in chain order and deasserts; when
the final release fails it reports ChipSelectFailure and no values (42_transfer.md R181, R183, R184). One transfer
per device is the spec's decision D11. -/
def Obligations.ReadReturnsTriplesInChainOrder : Prop :=
  ∀ (s : State) (reg : BitVec 5) (g : RegisterGroup) (rx : List Byte) (fs : List ResponseFrame) (x : PinResult PinCause),
    admittedGroup s.params reg = some g → fs.length = s.params.chainLength → (∀ f ∈ fs, validFrame f = true) →
    Supplies ([.pinLow .ok, .xfer (commandBytes (frame (opcodeOf s.params.opcodeOf g))) (.ok rx)] ++
      fs.map (fun f => .xfer (List.replicate 8 0xFF#8) (.ok f.bytes)) ++ [.pinHigh x]) s →
    ∃ t, exec (.read reg) s = .next t ∧
      Concludes s t (match x with
          | .ok => .ok (.triples (fs.map fun f => ⟨f.r1 ++ f.r0, f.r3 ++ f.r2, f.r5 ++ f.r4⟩))
          | .err p => .err (.chipSelectFailure p))
        ([.pinLow .ok, .xfer (commandBytes (frame (opcodeOf s.params.opcodeOf g))) (.ok rx)] ++
          fs.map (fun f => .xfer (List.replicate 8 0xFF#8) (.ok f.bytes)) ++ [.pinHigh x])
        (levelAfter .deasserted x) .idle

/-- After k valid frames, the first device whose frame fails its check, or whose transfer fails, ends the READ: no
further transfer, no values, one release (42_transfer.md R182, R184; 60_exceptions.md R236). Rests on the spec's
decisions D11 and D13. -/
def Obligations.ReadAbortsAtFirstFailingDevice : Prop :=
  (∀ (s : State) (reg : BitVec 5) (g : RegisterGroup) (rx : List Byte) (fs : List ResponseFrame)
      (bad : ResponseFrame) (x : PinResult PinCause),
    admittedGroup s.params reg = some g → fs.length < s.params.chainLength → (∀ f ∈ fs, validFrame f = true) →
    validFrame bad = false →
    Supplies ([.pinLow .ok, .xfer (commandBytes (frame (opcodeOf s.params.opcodeOf g))) (.ok rx)] ++
      fs.map deviceEvent ++ [deviceEvent bad, .pinHigh x]) s →
    ∃ t, exec (.read reg) s = .next t ∧
      Concludes s t (.err .checksumMismatch)
        ([.pinLow .ok, .xfer (commandBytes (frame (opcodeOf s.params.opcodeOf g))) (.ok rx)] ++
          fs.map deviceEvent ++ [deviceEvent bad, .pinHigh x]) (levelAfter .deasserted x) .idle) ∧
  (∀ (s : State) (reg : BitVec 5) (g : RegisterGroup) (rx : List Byte) (fs : List ResponseFrame)
      (b : BusCause) (x : PinResult PinCause),
    admittedGroup s.params reg = some g → fs.length < s.params.chainLength → (∀ f ∈ fs, validFrame f = true) →
    Supplies ([.pinLow .ok, .xfer (commandBytes (frame (opcodeOf s.params.opcodeOf g))) (.ok rx)] ++
      fs.map deviceEvent ++ [.xfer readTx (.err b), .pinHigh x]) s →
    ∃ t, exec (.read reg) s = .next t ∧
      Concludes s t (.err (.transferFailure b))
        ([.pinLow .ok, .xfer (commandBytes (frame (opcodeOf s.params.opcodeOf g))) (.ok rx)] ++
          fs.map deviceEvent ++ [.xfer readTx (.err b), .pinHigh x]) (levelAfter .deasserted x) .idle)

/-- A READ whose assert or command fails releases the line once and reports the first failure (42_transfer.md R184).
Rests on the spec's decisions D12 and D13. -/
def Obligations.ReadCommandFailureReleases : Prop :=
  (∀ (s : State) (reg : BitVec 5) (g : RegisterGroup) (c : PinCause) (x : PinResult PinCause),
    admittedGroup s.params reg = some g → Supplies [.pinLow (.err c), .pinHigh x] s →
    ∃ t, exec (.read reg) s = .next t ∧
      Concludes s t (.err (.chipSelectFailure c)) [.pinLow (.err c), .pinHigh x] (levelAfter .deasserted x) .idle) ∧
  (∀ (s : State) (reg : BitVec 5) (g : RegisterGroup) (b : BusCause) (x : PinResult PinCause),
    admittedGroup s.params reg = some g →
    Supplies [.pinLow .ok, .xfer (commandBytes (frame (opcodeOf s.params.opcodeOf g))) (.err b), .pinHigh x] s →
    ∃ t, exec (.read reg) s = .next t ∧
      Concludes s t (.err (.transferFailure b))
        [.pinLow .ok, .xfer (commandBytes (frame (opcodeOf s.params.opcodeOf g))) (.err b), .pinHigh x]
        (levelAfter .deasserted x) .idle)

/-- A READ of REG above 14, or of a group outside SUPPORTED_GROUPS, is refused before any call (42_transfer.md R180).
Rests on the spec's decisions D8 and D33. -/
def Obligations.ReadRefusesUnsupportedGroups : Prop :=
  ∀ (s : State) (reg : BitVec 5),
    (14 < reg.toNat ∨ ∃ g, g.number = reg ∧ g ∉ s.params.supportedGroups) →
    ∃ t, exec (.read reg) s = .next t ∧ Refuses s t .unsupportedRegisterGroup

/-! ### POLL_CONVERSION_DONE -/

/-- Under LineHold, a poll whose sample is 0xFF releases the line: Ok(true) when the release succeeds, ChipSelectFailure
when it fails (42_transfer.md R188). The failed release is the spec's decision D17. -/
def Obligations.PollReportsTrueOnAllOnes : Prop :=
  ∀ (s : State) (x : PinResult PinCause), s.strategy = .lineHold →
    Supplies [.xfer [0xFF#8] (.ok [0xFF#8]), .pinHigh x] s →
    ∃ t, exec .poll s = .next t ∧
      Concludes s t (match x with | .ok => .ok (.done true) | .err p => .err (.chipSelectFailure p))
        [.xfer [0xFF#8] (.ok [0xFF#8]), .pinHigh x] (match x with | .ok => .deasserted | .err _ => .unknown) .idle

/-- Under LineHold, a poll whose sample is any other byte makes no pin call, reports false and leaves line and phase
(42_transfer.md R189). -/
def Obligations.PollReportsFalseOtherwise : Prop :=
  ∀ (s : State) (b : Byte), s.strategy = .lineHold → b ≠ 0xFF#8 → Supplies [.xfer [0xFF#8] (.ok [b])] s →
    ∃ t, exec .poll s = .next t ∧
      Concludes s t (.ok (.done false)) [.xfer [0xFF#8] (.ok [b])] s.csLine s.phase

/-- Under LineHold, a poll whose transfer fails releases the line and ends the sequence (42_transfer.md R190). Rests on
the spec's decision D16. -/
def Obligations.PollFailureEndsSequence : Prop :=
  ∀ (s : State) (b : BusCause) (x : PinResult PinCause), s.strategy = .lineHold →
    Supplies [.xfer [0xFF#8] (.err b), .pinHigh x] s →
    ∃ t, exec .poll s = .next t ∧
      Concludes s t (.err (.transferFailure b)) [.xfer [0xFF#8] (.err b), .pinHigh x] (levelAfter .deasserted x) .idle

/-- Under ReleaseImmediately a poll is refused before any call (42_transfer.md R186). Rests on the spec's decisions D18
and D33. -/
def Obligations.PollRefusedUnderReleaseImmediately : Prop :=
  ∀ s : State, s.strategy = .releaseImmediately →
    ∃ t, exec .poll s = .next t ∧ Refuses s t .pollWithoutLineHold

/-! ### The sequencer as a whole -/

/-- Whatever the environment draws, an admitted START, READ or POLL follows a row of the table of
42_transfer.md R193: its calls in order, its result, the line and the phase after it. R193 is marked derived in the
spec. -/
def Obligations.TransfersFollowPathTable : Prop :=
  ∀ (s : State) (i : Instr),
    (∃ opc, admittedOpcode s.params i = some opc) ∨ (i = .poll ∧ s.strategy = .lineHold) →
    ∃ t calls r line phase, exec i s = .next t ∧
      TransferPath s.params s.strategy s.csLine s.phase i calls r line phase ∧ Supplies calls s ∧
      Concludes s t r calls line phase

/-- The chip-select guarantee (42_transfer.md R194). When an operation other than VALIDATE returns an error, its last
call was a PinSetHigh, and the line is deasserted unless that call failed. When an operation returns Ok: a START leaves
the line asserted under LineHold and deasserted under ReleaseImmediately, a READ leaves it deasserted, a poll leaves it
unchanged when it returned false and deasserted otherwise, and the operations without calls leave it as it was (the
spec's decision D36). R194 is marked derived in the spec. -/
def Obligations.ChipSelectGuarantee : Prop :=
  ∀ (i : Instr) (s t : State), exec i s = .next t →
    (∀ e, (∀ r, i ≠ .validate r) → t.responses = s.responses ++ [.err e] →
      ∃ calls x, t.trace = s.trace ++ calls ++ [.pinHigh x] ∧ t.csLine = levelAfter .deasserted x ∧ t.phase = .idle) ∧
    (∀ v, t.responses = s.responses ++ [.ok v] →
      (∀ md dcp ch, i = .startconv md dcp ch →
        t.csLine = if s.strategy = .lineHold then .asserted else .deasserted) ∧
      (∀ reg, i = .read reg → t.csLine = .deasserted) ∧
      (i = .poll → t.csLine = if v = .done false then s.csLine else .deasserted) ∧
      ((∀ md dcp ch, i ≠ .startconv md dcp ch) → (∀ reg, i ≠ .read reg) → i ≠ .poll → t.csLine = s.csLine))

/-- One request makes at most one PinSetHigh, always as its last call (42_transfer.md R170), at most one PinSetLow,
always as its first (R172), and at most L + 1 transfers (R68). The exceptions to release follow the spec's decision
D12. -/
def Obligations.AtMostOneReleasePerRequest : Prop :=
  ∀ (i : Instr) (s t : State), exec i s = .next t → ∃ calls, t.trace = s.trace ++ calls ∧
    (∀ n x, calls[n]? = some (.pinHigh x) → n + 1 = calls.length) ∧
    (∀ n x, calls[n]? = some (.pinLow x) → n = 0) ∧
    calls.countP (fun e => !e.isPin) ≤ s.params.chainLength + 1

/-- No operation reads the line or the phase: from states that differ only there it makes the same calls, returns the
same response and leaves every other field the same (42_transfer.md R173, 10_state.md R35). Rests on the spec's
decisions D19 and D35. -/
def Obligations.LineAndPhaseDecideNothing : Prop :=
  ∀ (i : Instr) (s t : State) (l : Line) (h : Phase), exec i s = .next t →
    ∃ t', exec i { s with csLine := l, phase := h } = .next t' ∧ t' = { t with csLine := t'.csLine, phase := t'.phase }

/-- No operation reads a transient register before writing it: what they held before changes nothing but what they hold
after a refusal or a switch, which do not use them (10_state.md R30). That R30's registers are written before they
are read is read from the pseudocode. -/
def Obligations.TransientsDecideNothing : Prop :=
  ∀ (i : Instr) (s t : State) (a : Word16) (c : CommandFrame) (r : ResponseFrame) (o : List Triple) (x : Nat),
    exec i s = .next t →
    ∃ t', exec i { s with acc := a, cmd := c, rsp := r, out := o, idx := x } = .next t' ∧
      t' = { t with acc := t'.acc, cmd := t'.cmd, rsp := t'.rsp, out := t'.out, idx := t'.idx }

/-- The bytes received during a command are discarded (20_memory.md R68): for an operation other than POLL, whatever
bytes its first transfer draws, it leaves the same state but for the trace and the draws, makes the same calls with the
same outcomes but for the received bytes of its command transfer (its second call), and uses up the same draws. Rests
on the spec's decision D32. -/
def Obligations.CommandReplyIsDiscarded : Prop :=
  ∀ (i : Instr) (s t : State) (rx ry : List Byte) (bs : List (BusResult BusCause)), i ≠ .poll →
    exec i { s with busDraws := .ok rx :: bs } = .next t →
    ∃ t' calls calls', exec i { s with busDraws := .ok ry :: bs } = .next t' ∧
      t' = { t with trace := t'.trace, busDraws := t'.busDraws } ∧
      (t'.busDraws = t.busDraws ∨ (t.busDraws = .ok rx :: bs ∧ t'.busDraws = .ok ry :: bs)) ∧
      t.trace = s.trace ++ calls ∧ t'.trace = s.trace ++ calls' ∧ calls'.length = calls.length ∧
      (∀ n, n ≠ 1 → calls'[n]? = calls[n]?) ∧
      (calls'[1]? = calls[1]? ∨ ∃ tx got got', calls[1]? = some (.xfer tx (.ok got)) ∧
        calls'[1]? = some (.xfer tx (.ok got')))

/-! ### The strategy -/

/-- SWITCH from ReleaseImmediately to LineHold writes the strategy, and besides its response nothing (43_strategy.md
R215); every other switch is refused (R216). Rests on the spec's decision D20. -/
def Obligations.SwitchWritesOnlyStrategy : Prop :=
  ∀ (s : State) (target : Strategy),
    (s.strategy = .releaseImmediately ∧ target = .lineHold → exec (.switch target) s = .next { s with
      strategy := .lineHold, responses := s.responses ++ [.ok .unit], requestIndex := s.requestIndex + 1 }) ∧
    (¬ (s.strategy = .releaseImmediately ∧ target = .lineHold) →
      ∃ t, exec (.switch target) s = .next t ∧ Refuses s t .strategySwitchNotAdmitted)

/-- Only SWITCH writes the strategy, and a step never leaves LineHold (10_state.md R33, 70_reset_and_hazards.md R275).
Rests on the spec's decision D20. -/
def Obligations.StrategyIsOneWay : Prop :=
  (∀ (i : Instr) (s t : State), exec i s = .next t → t.strategy ≠ s.strategy →
    i = .switch .lineHold ∧ s.strategy = .releaseImmediately ∧ t.strategy = .lineHold) ∧
  (∀ s t : State, s.strategy = .lineHold → step s = .next t → t.strategy = .lineHold)

/-- The phase after each request (43_strategy.md R214): START, by strategy and outcome; READ, Idle after any call; POLL,
by outcome; CALC, FRAME, VALIDATE and SWITCH, unchanged. R211 to R214 are marked derived in the spec. -/
def Obligations.PhaseFollowsTransitionTable : Prop :=
  (∀ (s t : State) (md : BitVec 2) (dcp : Bool) (ch : BitVec 3), supportsCh s.params ch = true →
    exec (.startconv md dcp ch) s = .next t →
    t.phase = if s.strategy = .lineHold ∧ t.responses = s.responses ++ [.ok .unit] then .polling else .idle) ∧
  (∀ (s t : State) (reg : BitVec 5) (g : RegisterGroup), admittedGroup s.params reg = some g →
    exec (.read reg) s = .next t → t.phase = .idle) ∧
  (∀ s t : State, s.strategy = .lineHold → exec .poll s = .next t →
    t.phase = if t.responses = s.responses ++ [.ok (.done false)] then s.phase else .idle) ∧
  (∀ (i : Instr) (s t : State), (∀ md dcp ch, i ≠ .startconv md dcp ch) → (∀ reg, i ≠ .read reg) → i ≠ .poll →
    exec i s = .next t → t.phase = s.phase)

/-! ### Requests, responses and refusals -/

/-- Each request gets exactly one answer, a response or a refusal, and the request index advances by one (10_state.md
R31, 60_exceptions.md R231). Rests on the spec's decisions D3 and D33. -/
def Obligations.OneAnswerPerRequest : Prop :=
  ∀ (s t : State) (q : HostRequest) (rest : List HostRequest), s.requests = q :: rest → step s = .next t →
    t.requests = rest ∧ t.requestIndex = s.requestIndex + 1 ∧
    ((∃ r, t.responses = s.responses ++ [r] ∧ t.refusals = s.refusals ∧ t.refused = s.refused) ∨
     (∃ why, t.responses = s.responses ∧ t.refusals = s.refusals ++ [why] ∧ t.refused = true))

/-- A refused request makes no call, returns no response and changes nothing but the refusal mark; the kept reason and
the request index are the model's own record (60_exceptions.md R231, log 11). Rests on the spec's decision D33. -/
def Obligations.RefusalChangesNothingElse : Prop :=
  ∀ (s t : State) (q : HostRequest) (rest : List HostRequest), s.requests = q :: rest → step s = .next t →
    t.responses = s.responses → ∃ why, Refuses { s with requests := rest } t why

/-- Over every step the trace, the responses and the refusals only grow, the refusal mark is sticky and the parameters,
L among them, are constant (10_state.md R37, R38, R40; 70_reset_and_hazards.md R264). The lists of responses and of
refusals are the model's own record (DESIGN CHOICE, log 11). The trace and the mark are the spec's decisions D2 and
D33. -/
def Obligations.HistoriesOnlyGrow : Prop :=
  ∀ s t : State, step s = .next t →
    s.trace <+: t.trace ∧ s.responses <+: t.responses ∧ s.refusals <+: t.refusals ∧
    (s.refused = true → t.refused = true) ∧ t.params = s.params

/-- STATUS packs the persistent fields as 10_state.md R41 lays them out, reads as zero above bit 4, and never holds CS =
0b11. STATUS is the spec's decision D30. -/
def Obligations.StatusWordLayout : Prop :=
  ∀ s : State,
    (status s).extractLsb' 0 1 = (match s.strategy with | .releaseImmediately => 0#1 | .lineHold => 1#1) ∧
    (status s).extractLsb' 1 2 = (match s.csLine with | .deasserted => 0b00#2 | .asserted => 0b01#2 | .unknown => 0b10#2) ∧
    (status s).extractLsb' 3 1 = (match s.phase with | .idle => 0#1 | .polling => 1#1) ∧
    (status s).getLsbD 4 = s.refused ∧
    (status s).extractLsb' 5 27 = 0#27 ∧
    (status s).extractLsb' 1 2 ≠ 0b11#2

/-- The host channel's bytes (30_encoding.md R103, R104): CALC gives its two bytes, the high one first, FRAME its four,
STARTCONV and SWITCH none after the status byte; the value bytes of a READ or VALIDATE are the payload bytes of each
frame unchanged; a ChecksumMismatch is the status byte 0x03 alone; the other codes stand before their cause. Rests on
the spec's decision D22. -/
def Obligations.ResponseBytesCarryPayloads : Prop :=
  (∀ hi lo : Byte, responseBytes (.ok (.checksum hi lo) : Response BusCause PinCause) = [0x00#8, hi, lo]) ∧
  (∀ f : CommandFrame, responseBytes (.ok (.frame f) : Response BusCause PinCause) = [0x00#8, f.b0, f.b1, f.b2, f.b3]) ∧
  responseBytes (.ok .unit : Response BusCause PinCause) = [0x00#8] ∧
  (∀ fs : List ResponseFrame, responseBytes (.ok (.triples (fs.map decodePayload)) : Response BusCause PinCause) =
    0x00#8 :: fs.flatMap fun f => [f.r0, f.r1, f.r2, f.r3, f.r4, f.r5]) ∧
  (∀ f : ResponseFrame, responseBytes (.ok (.triple (decodePayload f)) : Response BusCause PinCause) =
    [0x00#8, f.r0, f.r1, f.r2, f.r3, f.r4, f.r5]) ∧
  (∀ b : Bool, responseBytes (.ok (.done b) : Response BusCause PinCause) = [0x00#8, if b then 0x01#8 else 0x00#8]) ∧
  responseBytes (.err .checksumMismatch : Response BusCause PinCause) = [0x03#8] ∧
  (∀ b : BusCause, responseBytes (.err (.transferFailure b) : Response BusCause PinCause) = 0x01#8 :: Config.busCauseBytes b) ∧
  (∀ c : PinCause, responseBytes (.err (.chipSelectFailure c) : Response BusCause PinCause) = 0x02#8 :: Config.pinCauseBytes c)

/-! ### The host's bounded loop -/

/-- WAITCONV k under LineHold (30_encoding.md R113; 70_reset_and_hazards.md R272) stops after the first poll that does
not return Ok(false). When the bus samples n < k bytes other than 0xFF and then 0xFF, it makes n + 1 polls and ends with
Ok(true), or with ChipSelectFailure when the release fails; when the transfer after them fails, it ends with that
poll's TransferFailure; when it samples k other bytes it makes k polls, all false, and leaves line and phase. Rests on
the spec's decision D24; that WAITCONV is a function over `exec`, and its case k = 0, which R113 does not have, are the
model's choice (DESIGN CHOICE, log 24). -/
def Obligations.WaitConvPollsUntilAllOnes : Prop :=
  (∀ (s : State) (k : Nat) (busy : List Byte) (x : PinResult PinCause), s.strategy = .lineHold → busy.length < k →
    (∀ b ∈ busy, b ≠ 0xFF#8) →
    Supplies (busy.map (fun b => .xfer [0xFF#8] (.ok [b])) ++ [.xfer [0xFF#8] (.ok [0xFF#8]), .pinHigh x]) s →
    ∃ t, waitConv k s = .next t ∧
      t.responses = s.responses ++ List.replicate busy.length (.ok (.done false)) ++
        [match x with | .ok => .ok (.done true) | .err p => .err (.chipSelectFailure p)] ∧
      t.trace = s.trace ++ busy.map (fun b => .xfer [0xFF#8] (.ok [b])) ++
        [.xfer [0xFF#8] (.ok [0xFF#8]), .pinHigh x] ∧
      t.csLine = levelAfter .deasserted x ∧ t.phase = .idle) ∧
  (∀ (s : State) (k : Nat) (busy : List Byte) (c : BusCause) (x : PinResult PinCause), s.strategy = .lineHold →
    busy.length < k → (∀ b ∈ busy, b ≠ 0xFF#8) →
    Supplies (busy.map (fun b => .xfer [0xFF#8] (.ok [b])) ++ [.xfer [0xFF#8] (.err c), .pinHigh x]) s →
    ∃ t, waitConv k s = .next t ∧
      t.responses = s.responses ++ List.replicate busy.length (.ok (.done false)) ++ [.err (.transferFailure c)] ∧
      t.trace = s.trace ++ busy.map (fun b => .xfer [0xFF#8] (.ok [b])) ++ [.xfer [0xFF#8] (.err c), .pinHigh x] ∧
      t.csLine = levelAfter .deasserted x ∧ t.phase = .idle) ∧
  (∀ (s : State) (busy : List Byte), s.strategy = .lineHold → (∀ b ∈ busy, b ≠ 0xFF#8) →
    Supplies (busy.map (fun b => .xfer [0xFF#8] (.ok [b]))) s →
    ∃ t, waitConv busy.length s = .next t ∧
      t.responses = s.responses ++ List.replicate busy.length (.ok (.done false)) ∧
      t.trace = s.trace ++ busy.map (fun b => .xfer [0xFF#8] (.ok [b])) ∧
      t.csLine = s.csLine ∧ t.phase = s.phase)

/-- CONVERT (30_encoding.md R113). Under LineHold, after a START that returns Ok it is WAITCONV from where the START
left the block, and so ends with Ok(true) when the bus samples n < k other bytes and then 0xFF, the command sent once. A
START that does not return Ok is followed by no poll: one whose assert fails and one whose command fails, under both
strategies, one whose release fails under ReleaseImmediately, and one that is refused. Rests on the spec's decision D24;
CONVERT as a function over `exec` is the model's choice (DESIGN CHOICE, log 24). -/
def Obligations.ConvertStartsThenPolls : Prop :=
  (∀ (s : State) (md : BitVec 2) (dcp : Bool) (ch : BitVec 3) (k : Nat) (rx : List Byte),
    s.strategy = .lineHold → supportsCh s.params ch = true →
    Supplies [.pinLow .ok, .xfer (commandBytes (frame (composeAdcv s.params md ch dcp))) (.ok rx)] s →
    ∃ u, convert md dcp ch k s = waitConv k u ∧ Concludes s u (.ok .unit)
      [.pinLow .ok, .xfer (commandBytes (frame (composeAdcv s.params md ch dcp))) (.ok rx)] .asserted .polling) ∧
  (∀ (s : State) (md : BitVec 2) (dcp : Bool) (ch : BitVec 3) (k : Nat) (rx busy : List Byte),
    s.strategy = .lineHold → supportsCh s.params ch = true → busy.length < k → (∀ b ∈ busy, b ≠ 0xFF#8) →
    Supplies ([.pinLow .ok, .xfer (commandBytes (frame (composeAdcv s.params md ch dcp))) (.ok rx)] ++
      (busy.map (fun b => .xfer [0xFF#8] (.ok [b])) ++ [.xfer [0xFF#8] (.ok [0xFF#8]), .pinHigh .ok])) s →
    ∃ t, convert md dcp ch k s = .next t ∧
      t.responses = s.responses ++ [.ok .unit] ++ List.replicate busy.length (.ok (.done false)) ++ [.ok (.done true)] ∧
      t.trace = s.trace ++ ([.pinLow .ok, .xfer (commandBytes (frame (composeAdcv s.params md ch dcp))) (.ok rx)] ++
        (busy.map (fun b => .xfer [0xFF#8] (.ok [b])) ++ [.xfer [0xFF#8] (.ok [0xFF#8]), .pinHigh .ok])) ∧
      t.csLine = .deasserted ∧ t.phase = .idle) ∧
  (∀ (s : State) (md : BitVec 2) (dcp : Bool) (ch : BitVec 3) (k : Nat) (c : PinCause) (x : PinResult PinCause),
    supportsCh s.params ch = true → Supplies [.pinLow (.err c), .pinHigh x] s →
    ∃ t, convert md dcp ch k s = .next t ∧
      Concludes s t (.err (.chipSelectFailure c)) [.pinLow (.err c), .pinHigh x] (levelAfter .deasserted x) .idle) ∧
  (∀ (s : State) (md : BitVec 2) (dcp : Bool) (ch : BitVec 3) (k : Nat) (b : BusCause) (x : PinResult PinCause),
    supportsCh s.params ch = true →
    Supplies [.pinLow .ok, .xfer (commandBytes (frame (composeAdcv s.params md ch dcp))) (.err b), .pinHigh x] s →
    ∃ t, convert md dcp ch k s = .next t ∧
      Concludes s t (.err (.transferFailure b))
        [.pinLow .ok, .xfer (commandBytes (frame (composeAdcv s.params md ch dcp))) (.err b), .pinHigh x]
        (levelAfter .deasserted x) .idle) ∧
  (∀ (s : State) (md : BitVec 2) (dcp : Bool) (ch : BitVec 3) (k : Nat) (rx : List Byte) (c : PinCause),
    s.strategy = .releaseImmediately → supportsCh s.params ch = true →
    Supplies [.pinLow .ok, .xfer (commandBytes (frame (composeAdcv s.params md ch dcp))) (.ok rx), .pinHigh (.err c)] s →
    ∃ t, convert md dcp ch k s = .next t ∧
      Concludes s t (.err (.chipSelectFailure c))
        [.pinLow .ok, .xfer (commandBytes (frame (composeAdcv s.params md ch dcp))) (.ok rx), .pinHigh (.err c)]
        .unknown .idle) ∧
  (∀ (s : State) (md : BitVec 2) (dcp : Bool) (ch : BitVec 3) (k : Nat), supportsCh s.params ch = false →
    ∃ t, convert md dcp ch k s = .next t ∧ Refuses s t .unsupportedCellSelection)

/-! ### The causes of failures -/

/-- The block never looks inside a cause (00_scope.md R20): renaming the causes in the draws of the calls an operation
can make, by any two functions, renames them in the trace, the responses and the draws left, and changes nothing else.
(R20's type parameters are `B` and `P` of every meaning; this is their effect on `exec`.) -/
def Obligations.CausesAreCarriedVerbatim : Prop :=
  ∀ (f : BusCause → BusCause) (g : PinCause → PinCause) (i : Instr) (s t : State),
    2 ≤ s.pinDraws.length → s.params.chainLength + 1 ≤ s.busDraws.length → exec i s = .next t →
    exec i (s.mapCauses f g) = .next (t.mapCauses f g)
end

