-- ==== Sys2Proof/Laws/State.lean ====
section
/-! SUPPORT. One lemma per field per update of State, true by rfl, so that no proof unfolds a record update; and the
environment's next draws, which depend on the draws and on the number of calls made alone. -/

namespace Sys2Proof.Machine

open Sys2Proof

variable {B P : Type}

/-! ### State.pinSetLow -/

@[simp] theorem State.pinSetLow_params (s : State B P) : s.pinSetLow.params = s.params := rfl
@[simp] theorem State.pinSetLow_strategy (s : State B P) : s.pinSetLow.strategy = s.strategy := rfl
@[simp] theorem State.pinSetLow_csLine (s : State B P) : s.pinSetLow.csLine = levelAfter .asserted s.pinDraw := rfl
@[simp] theorem State.pinSetLow_phase (s : State B P) : s.pinSetLow.phase = s.phase := rfl
@[simp] theorem State.pinSetLow_trace (s : State B P) : s.pinSetLow.trace = s.trace ++ [.pinLow s.pinDraw] := rfl
@[simp] theorem State.pinSetLow_refused (s : State B P) : s.pinSetLow.refused = s.refused := rfl
@[simp] theorem State.pinSetLow_acc (s : State B P) : s.pinSetLow.acc = s.acc := rfl
@[simp] theorem State.pinSetLow_cmd (s : State B P) : s.pinSetLow.cmd = s.cmd := rfl
@[simp] theorem State.pinSetLow_rsp (s : State B P) : s.pinSetLow.rsp = s.rsp := rfl
@[simp] theorem State.pinSetLow_out (s : State B P) : s.pinSetLow.out = s.out := rfl
@[simp] theorem State.pinSetLow_idx (s : State B P) : s.pinSetLow.idx = s.idx := rfl
@[simp] theorem State.pinSetLow_requestIndex (s : State B P) : s.pinSetLow.requestIndex = s.requestIndex := rfl
@[simp] theorem State.pinSetLow_requests (s : State B P) : s.pinSetLow.requests = s.requests := rfl
@[simp] theorem State.pinSetLow_responses (s : State B P) : s.pinSetLow.responses = s.responses := rfl
@[simp] theorem State.pinSetLow_refusals (s : State B P) : s.pinSetLow.refusals = s.refusals := rfl
@[simp] theorem State.pinSetLow_pinDraws (s : State B P) : s.pinSetLow.pinDraws = s.pinDraws.tail := rfl
@[simp] theorem State.pinSetLow_busDraws (s : State B P) : s.pinSetLow.busDraws = s.busDraws := rfl

/-! ### State.pinSetHigh -/

@[simp] theorem State.pinSetHigh_params (s : State B P) : s.pinSetHigh.params = s.params := rfl
@[simp] theorem State.pinSetHigh_strategy (s : State B P) : s.pinSetHigh.strategy = s.strategy := rfl
@[simp] theorem State.pinSetHigh_csLine (s : State B P) : s.pinSetHigh.csLine = levelAfter .deasserted s.pinDraw := rfl
@[simp] theorem State.pinSetHigh_phase (s : State B P) : s.pinSetHigh.phase = s.phase := rfl
@[simp] theorem State.pinSetHigh_trace (s : State B P) : s.pinSetHigh.trace = s.trace ++ [.pinHigh s.pinDraw] := rfl
@[simp] theorem State.pinSetHigh_refused (s : State B P) : s.pinSetHigh.refused = s.refused := rfl
@[simp] theorem State.pinSetHigh_acc (s : State B P) : s.pinSetHigh.acc = s.acc := rfl
@[simp] theorem State.pinSetHigh_cmd (s : State B P) : s.pinSetHigh.cmd = s.cmd := rfl
@[simp] theorem State.pinSetHigh_rsp (s : State B P) : s.pinSetHigh.rsp = s.rsp := rfl
@[simp] theorem State.pinSetHigh_out (s : State B P) : s.pinSetHigh.out = s.out := rfl
@[simp] theorem State.pinSetHigh_idx (s : State B P) : s.pinSetHigh.idx = s.idx := rfl
@[simp] theorem State.pinSetHigh_requestIndex (s : State B P) : s.pinSetHigh.requestIndex = s.requestIndex := rfl
@[simp] theorem State.pinSetHigh_requests (s : State B P) : s.pinSetHigh.requests = s.requests := rfl
@[simp] theorem State.pinSetHigh_responses (s : State B P) : s.pinSetHigh.responses = s.responses := rfl
@[simp] theorem State.pinSetHigh_refusals (s : State B P) : s.pinSetHigh.refusals = s.refusals := rfl
@[simp] theorem State.pinSetHigh_pinDraws (s : State B P) : s.pinSetHigh.pinDraws = s.pinDraws.tail := rfl
@[simp] theorem State.pinSetHigh_busDraws (s : State B P) : s.pinSetHigh.busDraws = s.busDraws := rfl

/-! ### State.busTransfer -/

@[simp] theorem State.busTransfer_params (s : State B P) (tx : List Byte) : (s.busTransfer tx).params = s.params := rfl
@[simp] theorem State.busTransfer_strategy (s : State B P) (tx : List Byte) : (s.busTransfer tx).strategy = s.strategy := rfl
@[simp] theorem State.busTransfer_csLine (s : State B P) (tx : List Byte) : (s.busTransfer tx).csLine = s.csLine := rfl
@[simp] theorem State.busTransfer_phase (s : State B P) (tx : List Byte) : (s.busTransfer tx).phase = s.phase := rfl
@[simp] theorem State.busTransfer_trace (s : State B P) (tx : List Byte) : (s.busTransfer tx).trace = s.trace ++ [.xfer tx (s.busDraw tx.length)] := rfl
@[simp] theorem State.busTransfer_refused (s : State B P) (tx : List Byte) : (s.busTransfer tx).refused = s.refused := rfl
@[simp] theorem State.busTransfer_acc (s : State B P) (tx : List Byte) : (s.busTransfer tx).acc = s.acc := rfl
@[simp] theorem State.busTransfer_cmd (s : State B P) (tx : List Byte) : (s.busTransfer tx).cmd = s.cmd := rfl
@[simp] theorem State.busTransfer_rsp (s : State B P) (tx : List Byte) : (s.busTransfer tx).rsp = s.rsp := rfl
@[simp] theorem State.busTransfer_out (s : State B P) (tx : List Byte) : (s.busTransfer tx).out = s.out := rfl
@[simp] theorem State.busTransfer_idx (s : State B P) (tx : List Byte) : (s.busTransfer tx).idx = s.idx := rfl
@[simp] theorem State.busTransfer_requestIndex (s : State B P) (tx : List Byte) : (s.busTransfer tx).requestIndex = s.requestIndex := rfl
@[simp] theorem State.busTransfer_requests (s : State B P) (tx : List Byte) : (s.busTransfer tx).requests = s.requests := rfl
@[simp] theorem State.busTransfer_responses (s : State B P) (tx : List Byte) : (s.busTransfer tx).responses = s.responses := rfl
@[simp] theorem State.busTransfer_refusals (s : State B P) (tx : List Byte) : (s.busTransfer tx).refusals = s.refusals := rfl
@[simp] theorem State.busTransfer_pinDraws (s : State B P) (tx : List Byte) : (s.busTransfer tx).pinDraws = s.pinDraws := rfl
@[simp] theorem State.busTransfer_busDraws (s : State B P) (tx : List Byte) : (s.busTransfer tx).busDraws = s.busDraws.tail := rfl

/-! ### State.setPhase -/

@[simp] theorem State.setPhase_params (s : State B P) (m : MachineState) : (s.setPhase m).params = s.params := rfl
@[simp] theorem State.setPhase_strategy (s : State B P) (m : MachineState) : (s.setPhase m).strategy = s.strategy := rfl
@[simp] theorem State.setPhase_csLine (s : State B P) (m : MachineState) : (s.setPhase m).csLine = s.csLine := rfl
@[simp] theorem State.setPhase_phase (s : State B P) (m : MachineState) : (s.setPhase m).phase = settle m := rfl
@[simp] theorem State.setPhase_trace (s : State B P) (m : MachineState) : (s.setPhase m).trace = s.trace := rfl
@[simp] theorem State.setPhase_refused (s : State B P) (m : MachineState) : (s.setPhase m).refused = s.refused := rfl
@[simp] theorem State.setPhase_acc (s : State B P) (m : MachineState) : (s.setPhase m).acc = s.acc := rfl
@[simp] theorem State.setPhase_cmd (s : State B P) (m : MachineState) : (s.setPhase m).cmd = s.cmd := rfl
@[simp] theorem State.setPhase_rsp (s : State B P) (m : MachineState) : (s.setPhase m).rsp = s.rsp := rfl
@[simp] theorem State.setPhase_out (s : State B P) (m : MachineState) : (s.setPhase m).out = s.out := rfl
@[simp] theorem State.setPhase_idx (s : State B P) (m : MachineState) : (s.setPhase m).idx = s.idx := rfl
@[simp] theorem State.setPhase_requestIndex (s : State B P) (m : MachineState) : (s.setPhase m).requestIndex = s.requestIndex := rfl
@[simp] theorem State.setPhase_requests (s : State B P) (m : MachineState) : (s.setPhase m).requests = s.requests := rfl
@[simp] theorem State.setPhase_responses (s : State B P) (m : MachineState) : (s.setPhase m).responses = s.responses := rfl
@[simp] theorem State.setPhase_refusals (s : State B P) (m : MachineState) : (s.setPhase m).refusals = s.refusals := rfl
@[simp] theorem State.setPhase_pinDraws (s : State B P) (m : MachineState) : (s.setPhase m).pinDraws = s.pinDraws := rfl
@[simp] theorem State.setPhase_busDraws (s : State B P) (m : MachineState) : (s.setPhase m).busDraws = s.busDraws := rfl

/-! ### State.setStrategy -/

@[simp] theorem State.setStrategy_params (s : State B P) (g : Strategy) : (s.setStrategy g).params = s.params := rfl
@[simp] theorem State.setStrategy_strategy (s : State B P) (g : Strategy) : (s.setStrategy g).strategy = g := rfl
@[simp] theorem State.setStrategy_csLine (s : State B P) (g : Strategy) : (s.setStrategy g).csLine = s.csLine := rfl
@[simp] theorem State.setStrategy_phase (s : State B P) (g : Strategy) : (s.setStrategy g).phase = s.phase := rfl
@[simp] theorem State.setStrategy_trace (s : State B P) (g : Strategy) : (s.setStrategy g).trace = s.trace := rfl
@[simp] theorem State.setStrategy_refused (s : State B P) (g : Strategy) : (s.setStrategy g).refused = s.refused := rfl
@[simp] theorem State.setStrategy_acc (s : State B P) (g : Strategy) : (s.setStrategy g).acc = s.acc := rfl
@[simp] theorem State.setStrategy_cmd (s : State B P) (g : Strategy) : (s.setStrategy g).cmd = s.cmd := rfl
@[simp] theorem State.setStrategy_rsp (s : State B P) (g : Strategy) : (s.setStrategy g).rsp = s.rsp := rfl
@[simp] theorem State.setStrategy_out (s : State B P) (g : Strategy) : (s.setStrategy g).out = s.out := rfl
@[simp] theorem State.setStrategy_idx (s : State B P) (g : Strategy) : (s.setStrategy g).idx = s.idx := rfl
@[simp] theorem State.setStrategy_requestIndex (s : State B P) (g : Strategy) : (s.setStrategy g).requestIndex = s.requestIndex := rfl
@[simp] theorem State.setStrategy_requests (s : State B P) (g : Strategy) : (s.setStrategy g).requests = s.requests := rfl
@[simp] theorem State.setStrategy_responses (s : State B P) (g : Strategy) : (s.setStrategy g).responses = s.responses := rfl
@[simp] theorem State.setStrategy_refusals (s : State B P) (g : Strategy) : (s.setStrategy g).refusals = s.refusals := rfl
@[simp] theorem State.setStrategy_pinDraws (s : State B P) (g : Strategy) : (s.setStrategy g).pinDraws = s.pinDraws := rfl
@[simp] theorem State.setStrategy_busDraws (s : State B P) (g : Strategy) : (s.setStrategy g).busDraws = s.busDraws := rfl

/-! ### State.setAcc -/

@[simp] theorem State.setAcc_params (s : State B P) (v : Word16) : (s.setAcc v).params = s.params := rfl
@[simp] theorem State.setAcc_strategy (s : State B P) (v : Word16) : (s.setAcc v).strategy = s.strategy := rfl
@[simp] theorem State.setAcc_csLine (s : State B P) (v : Word16) : (s.setAcc v).csLine = s.csLine := rfl
@[simp] theorem State.setAcc_phase (s : State B P) (v : Word16) : (s.setAcc v).phase = s.phase := rfl
@[simp] theorem State.setAcc_trace (s : State B P) (v : Word16) : (s.setAcc v).trace = s.trace := rfl
@[simp] theorem State.setAcc_refused (s : State B P) (v : Word16) : (s.setAcc v).refused = s.refused := rfl
@[simp] theorem State.setAcc_acc (s : State B P) (v : Word16) : (s.setAcc v).acc = v := rfl
@[simp] theorem State.setAcc_cmd (s : State B P) (v : Word16) : (s.setAcc v).cmd = s.cmd := rfl
@[simp] theorem State.setAcc_rsp (s : State B P) (v : Word16) : (s.setAcc v).rsp = s.rsp := rfl
@[simp] theorem State.setAcc_out (s : State B P) (v : Word16) : (s.setAcc v).out = s.out := rfl
@[simp] theorem State.setAcc_idx (s : State B P) (v : Word16) : (s.setAcc v).idx = s.idx := rfl
@[simp] theorem State.setAcc_requestIndex (s : State B P) (v : Word16) : (s.setAcc v).requestIndex = s.requestIndex := rfl
@[simp] theorem State.setAcc_requests (s : State B P) (v : Word16) : (s.setAcc v).requests = s.requests := rfl
@[simp] theorem State.setAcc_responses (s : State B P) (v : Word16) : (s.setAcc v).responses = s.responses := rfl
@[simp] theorem State.setAcc_refusals (s : State B P) (v : Word16) : (s.setAcc v).refusals = s.refusals := rfl
@[simp] theorem State.setAcc_pinDraws (s : State B P) (v : Word16) : (s.setAcc v).pinDraws = s.pinDraws := rfl
@[simp] theorem State.setAcc_busDraws (s : State B P) (v : Word16) : (s.setAcc v).busDraws = s.busDraws := rfl

/-! ### State.setCmd -/

@[simp] theorem State.setCmd_params (s : State B P) (f : CommandFrame) : (s.setCmd f).params = s.params := rfl
@[simp] theorem State.setCmd_strategy (s : State B P) (f : CommandFrame) : (s.setCmd f).strategy = s.strategy := rfl
@[simp] theorem State.setCmd_csLine (s : State B P) (f : CommandFrame) : (s.setCmd f).csLine = s.csLine := rfl
@[simp] theorem State.setCmd_phase (s : State B P) (f : CommandFrame) : (s.setCmd f).phase = s.phase := rfl
@[simp] theorem State.setCmd_trace (s : State B P) (f : CommandFrame) : (s.setCmd f).trace = s.trace := rfl
@[simp] theorem State.setCmd_refused (s : State B P) (f : CommandFrame) : (s.setCmd f).refused = s.refused := rfl
@[simp] theorem State.setCmd_acc (s : State B P) (f : CommandFrame) : (s.setCmd f).acc = s.acc := rfl
@[simp] theorem State.setCmd_cmd (s : State B P) (f : CommandFrame) : (s.setCmd f).cmd = f := rfl
@[simp] theorem State.setCmd_rsp (s : State B P) (f : CommandFrame) : (s.setCmd f).rsp = s.rsp := rfl
@[simp] theorem State.setCmd_out (s : State B P) (f : CommandFrame) : (s.setCmd f).out = s.out := rfl
@[simp] theorem State.setCmd_idx (s : State B P) (f : CommandFrame) : (s.setCmd f).idx = s.idx := rfl
@[simp] theorem State.setCmd_requestIndex (s : State B P) (f : CommandFrame) : (s.setCmd f).requestIndex = s.requestIndex := rfl
@[simp] theorem State.setCmd_requests (s : State B P) (f : CommandFrame) : (s.setCmd f).requests = s.requests := rfl
@[simp] theorem State.setCmd_responses (s : State B P) (f : CommandFrame) : (s.setCmd f).responses = s.responses := rfl
@[simp] theorem State.setCmd_refusals (s : State B P) (f : CommandFrame) : (s.setCmd f).refusals = s.refusals := rfl
@[simp] theorem State.setCmd_pinDraws (s : State B P) (f : CommandFrame) : (s.setCmd f).pinDraws = s.pinDraws := rfl
@[simp] theorem State.setCmd_busDraws (s : State B P) (f : CommandFrame) : (s.setCmd f).busDraws = s.busDraws := rfl

/-! ### State.setRsp -/

@[simp] theorem State.setRsp_params (s : State B P) (r : ResponseFrame) : (s.setRsp r).params = s.params := rfl
@[simp] theorem State.setRsp_strategy (s : State B P) (r : ResponseFrame) : (s.setRsp r).strategy = s.strategy := rfl
@[simp] theorem State.setRsp_csLine (s : State B P) (r : ResponseFrame) : (s.setRsp r).csLine = s.csLine := rfl
@[simp] theorem State.setRsp_phase (s : State B P) (r : ResponseFrame) : (s.setRsp r).phase = s.phase := rfl
@[simp] theorem State.setRsp_trace (s : State B P) (r : ResponseFrame) : (s.setRsp r).trace = s.trace := rfl
@[simp] theorem State.setRsp_refused (s : State B P) (r : ResponseFrame) : (s.setRsp r).refused = s.refused := rfl
@[simp] theorem State.setRsp_acc (s : State B P) (r : ResponseFrame) : (s.setRsp r).acc = s.acc := rfl
@[simp] theorem State.setRsp_cmd (s : State B P) (r : ResponseFrame) : (s.setRsp r).cmd = s.cmd := rfl
@[simp] theorem State.setRsp_rsp (s : State B P) (r : ResponseFrame) : (s.setRsp r).rsp = r := rfl
@[simp] theorem State.setRsp_out (s : State B P) (r : ResponseFrame) : (s.setRsp r).out = s.out := rfl
@[simp] theorem State.setRsp_idx (s : State B P) (r : ResponseFrame) : (s.setRsp r).idx = s.idx := rfl
@[simp] theorem State.setRsp_requestIndex (s : State B P) (r : ResponseFrame) : (s.setRsp r).requestIndex = s.requestIndex := rfl
@[simp] theorem State.setRsp_requests (s : State B P) (r : ResponseFrame) : (s.setRsp r).requests = s.requests := rfl
@[simp] theorem State.setRsp_responses (s : State B P) (r : ResponseFrame) : (s.setRsp r).responses = s.responses := rfl
@[simp] theorem State.setRsp_refusals (s : State B P) (r : ResponseFrame) : (s.setRsp r).refusals = s.refusals := rfl
@[simp] theorem State.setRsp_pinDraws (s : State B P) (r : ResponseFrame) : (s.setRsp r).pinDraws = s.pinDraws := rfl
@[simp] theorem State.setRsp_busDraws (s : State B P) (r : ResponseFrame) : (s.setRsp r).busDraws = s.busDraws := rfl

/-! ### State.clearOut -/

@[simp] theorem State.clearOut_params (s : State B P) : s.clearOut.params = s.params := rfl
@[simp] theorem State.clearOut_strategy (s : State B P) : s.clearOut.strategy = s.strategy := rfl
@[simp] theorem State.clearOut_csLine (s : State B P) : s.clearOut.csLine = s.csLine := rfl
@[simp] theorem State.clearOut_phase (s : State B P) : s.clearOut.phase = s.phase := rfl
@[simp] theorem State.clearOut_trace (s : State B P) : s.clearOut.trace = s.trace := rfl
@[simp] theorem State.clearOut_refused (s : State B P) : s.clearOut.refused = s.refused := rfl
@[simp] theorem State.clearOut_acc (s : State B P) : s.clearOut.acc = s.acc := rfl
@[simp] theorem State.clearOut_cmd (s : State B P) : s.clearOut.cmd = s.cmd := rfl
@[simp] theorem State.clearOut_rsp (s : State B P) : s.clearOut.rsp = s.rsp := rfl
@[simp] theorem State.clearOut_out (s : State B P) : s.clearOut.out = [] := rfl
@[simp] theorem State.clearOut_idx (s : State B P) : s.clearOut.idx = 0 := rfl
@[simp] theorem State.clearOut_requestIndex (s : State B P) : s.clearOut.requestIndex = s.requestIndex := rfl
@[simp] theorem State.clearOut_requests (s : State B P) : s.clearOut.requests = s.requests := rfl
@[simp] theorem State.clearOut_responses (s : State B P) : s.clearOut.responses = s.responses := rfl
@[simp] theorem State.clearOut_refusals (s : State B P) : s.clearOut.refusals = s.refusals := rfl
@[simp] theorem State.clearOut_pinDraws (s : State B P) : s.clearOut.pinDraws = s.pinDraws := rfl
@[simp] theorem State.clearOut_busDraws (s : State B P) : s.clearOut.busDraws = s.busDraws := rfl

/-! ### State.storeOut -/

@[simp] theorem State.storeOut_params (s : State B P) (v : Triple) : (s.storeOut v).params = s.params := rfl
@[simp] theorem State.storeOut_strategy (s : State B P) (v : Triple) : (s.storeOut v).strategy = s.strategy := rfl
@[simp] theorem State.storeOut_csLine (s : State B P) (v : Triple) : (s.storeOut v).csLine = s.csLine := rfl
@[simp] theorem State.storeOut_phase (s : State B P) (v : Triple) : (s.storeOut v).phase = s.phase := rfl
@[simp] theorem State.storeOut_trace (s : State B P) (v : Triple) : (s.storeOut v).trace = s.trace := rfl
@[simp] theorem State.storeOut_refused (s : State B P) (v : Triple) : (s.storeOut v).refused = s.refused := rfl
@[simp] theorem State.storeOut_acc (s : State B P) (v : Triple) : (s.storeOut v).acc = s.acc := rfl
@[simp] theorem State.storeOut_cmd (s : State B P) (v : Triple) : (s.storeOut v).cmd = s.cmd := rfl
@[simp] theorem State.storeOut_rsp (s : State B P) (v : Triple) : (s.storeOut v).rsp = s.rsp := rfl
@[simp] theorem State.storeOut_out (s : State B P) (v : Triple) : (s.storeOut v).out = s.out ++ [v] := rfl
@[simp] theorem State.storeOut_idx (s : State B P) (v : Triple) : (s.storeOut v).idx = s.idx + 1 := rfl
@[simp] theorem State.storeOut_requestIndex (s : State B P) (v : Triple) : (s.storeOut v).requestIndex = s.requestIndex := rfl
@[simp] theorem State.storeOut_requests (s : State B P) (v : Triple) : (s.storeOut v).requests = s.requests := rfl
@[simp] theorem State.storeOut_responses (s : State B P) (v : Triple) : (s.storeOut v).responses = s.responses := rfl
@[simp] theorem State.storeOut_refusals (s : State B P) (v : Triple) : (s.storeOut v).refusals = s.refusals := rfl
@[simp] theorem State.storeOut_pinDraws (s : State B P) (v : Triple) : (s.storeOut v).pinDraws = s.pinDraws := rfl
@[simp] theorem State.storeOut_busDraws (s : State B P) (v : Triple) : (s.storeOut v).busDraws = s.busDraws := rfl

/-! ### State.abandonBuffers -/

@[simp] theorem State.abandonBuffers_params (s : State B P) : s.abandonBuffers.params = s.params := rfl
@[simp] theorem State.abandonBuffers_strategy (s : State B P) : s.abandonBuffers.strategy = s.strategy := rfl
@[simp] theorem State.abandonBuffers_csLine (s : State B P) : s.abandonBuffers.csLine = s.csLine := rfl
@[simp] theorem State.abandonBuffers_phase (s : State B P) : s.abandonBuffers.phase = s.phase := rfl
@[simp] theorem State.abandonBuffers_trace (s : State B P) : s.abandonBuffers.trace = s.trace := rfl
@[simp] theorem State.abandonBuffers_refused (s : State B P) : s.abandonBuffers.refused = s.refused := rfl
@[simp] theorem State.abandonBuffers_out (s : State B P) : s.abandonBuffers.out = (List.range s.params.chainLength).map (Config.freeOut s.requestIndex) := rfl
@[simp] theorem State.abandonBuffers_idx (s : State B P) : s.abandonBuffers.idx = Config.freeIdx s.requestIndex % (s.params.chainLength + 1) := rfl
@[simp] theorem State.abandonBuffers_requestIndex (s : State B P) : s.abandonBuffers.requestIndex = s.requestIndex := rfl
@[simp] theorem State.abandonBuffers_requests (s : State B P) : s.abandonBuffers.requests = s.requests := rfl
@[simp] theorem State.abandonBuffers_responses (s : State B P) : s.abandonBuffers.responses = s.responses := rfl
@[simp] theorem State.abandonBuffers_refusals (s : State B P) : s.abandonBuffers.refusals = s.refusals := rfl
@[simp] theorem State.abandonBuffers_pinDraws (s : State B P) : s.abandonBuffers.pinDraws = s.pinDraws := rfl
@[simp] theorem State.abandonBuffers_busDraws (s : State B P) : s.abandonBuffers.busDraws = s.busDraws := rfl

/-! ### State.respond -/

@[simp] theorem State.respond_params (s : State B P) (r : Response B P) : (s.respond r).params = s.params := rfl
@[simp] theorem State.respond_strategy (s : State B P) (r : Response B P) : (s.respond r).strategy = s.strategy := rfl
@[simp] theorem State.respond_csLine (s : State B P) (r : Response B P) : (s.respond r).csLine = s.csLine := rfl
@[simp] theorem State.respond_phase (s : State B P) (r : Response B P) : (s.respond r).phase = s.phase := rfl
@[simp] theorem State.respond_trace (s : State B P) (r : Response B P) : (s.respond r).trace = s.trace := rfl
@[simp] theorem State.respond_refused (s : State B P) (r : Response B P) : (s.respond r).refused = s.refused := rfl
@[simp] theorem State.respond_acc (s : State B P) (r : Response B P) : (s.respond r).acc = s.acc := rfl
@[simp] theorem State.respond_cmd (s : State B P) (r : Response B P) : (s.respond r).cmd = s.cmd := rfl
@[simp] theorem State.respond_rsp (s : State B P) (r : Response B P) : (s.respond r).rsp = s.rsp := rfl
@[simp] theorem State.respond_out (s : State B P) (r : Response B P) : (s.respond r).out = s.out := rfl
@[simp] theorem State.respond_idx (s : State B P) (r : Response B P) : (s.respond r).idx = s.idx := rfl
@[simp] theorem State.respond_requestIndex (s : State B P) (r : Response B P) : (s.respond r).requestIndex = s.requestIndex + 1 := rfl
@[simp] theorem State.respond_requests (s : State B P) (r : Response B P) : (s.respond r).requests = s.requests := rfl
@[simp] theorem State.respond_responses (s : State B P) (r : Response B P) : (s.respond r).responses = s.responses ++ [r] := rfl
@[simp] theorem State.respond_refusals (s : State B P) (r : Response B P) : (s.respond r).refusals = s.refusals := rfl
@[simp] theorem State.respond_pinDraws (s : State B P) (r : Response B P) : (s.respond r).pinDraws = s.pinDraws := rfl
@[simp] theorem State.respond_busDraws (s : State B P) (r : Response B P) : (s.respond r).busDraws = s.busDraws := rfl

/-! ### State.refuse -/

@[simp] theorem State.refuse_params (s : State B P) (why : RefuseReason) : (s.refuse why).params = s.params := rfl
@[simp] theorem State.refuse_strategy (s : State B P) (why : RefuseReason) : (s.refuse why).strategy = s.strategy := rfl
@[simp] theorem State.refuse_csLine (s : State B P) (why : RefuseReason) : (s.refuse why).csLine = s.csLine := rfl
@[simp] theorem State.refuse_phase (s : State B P) (why : RefuseReason) : (s.refuse why).phase = s.phase := rfl
@[simp] theorem State.refuse_trace (s : State B P) (why : RefuseReason) : (s.refuse why).trace = s.trace := rfl
@[simp] theorem State.refuse_refused (s : State B P) (why : RefuseReason) : (s.refuse why).refused = true := rfl
@[simp] theorem State.refuse_acc (s : State B P) (why : RefuseReason) : (s.refuse why).acc = s.acc := rfl
@[simp] theorem State.refuse_cmd (s : State B P) (why : RefuseReason) : (s.refuse why).cmd = s.cmd := rfl
@[simp] theorem State.refuse_rsp (s : State B P) (why : RefuseReason) : (s.refuse why).rsp = s.rsp := rfl
@[simp] theorem State.refuse_out (s : State B P) (why : RefuseReason) : (s.refuse why).out = s.out := rfl
@[simp] theorem State.refuse_idx (s : State B P) (why : RefuseReason) : (s.refuse why).idx = s.idx := rfl
@[simp] theorem State.refuse_requestIndex (s : State B P) (why : RefuseReason) : (s.refuse why).requestIndex = s.requestIndex + 1 := rfl
@[simp] theorem State.refuse_requests (s : State B P) (why : RefuseReason) : (s.refuse why).requests = s.requests := rfl
@[simp] theorem State.refuse_responses (s : State B P) (why : RefuseReason) : (s.refuse why).responses = s.responses := rfl
@[simp] theorem State.refuse_refusals (s : State B P) (why : RefuseReason) : (s.refuse why).refusals = s.refusals ++ [why] := rfl
@[simp] theorem State.refuse_pinDraws (s : State B P) (why : RefuseReason) : (s.refuse why).pinDraws = s.pinDraws := rfl
@[simp] theorem State.refuse_busDraws (s : State B P) (why : RefuseReason) : (s.refuse why).busDraws = s.busDraws := rfl

/-! ### State.release -/

@[simp] theorem State.release_params (s : State B P) : s.release.params = s.params := rfl
@[simp] theorem State.release_strategy (s : State B P) : s.release.strategy = s.strategy := rfl
@[simp] theorem State.release_csLine (s : State B P) : s.release.csLine = levelAfter .deasserted s.pinDraw := rfl
@[simp] theorem State.release_phase (s : State B P) : s.release.phase = .idle := rfl
@[simp] theorem State.release_trace (s : State B P) : s.release.trace = s.trace ++ [.pinHigh s.pinDraw] := rfl
@[simp] theorem State.release_refused (s : State B P) : s.release.refused = s.refused := rfl
@[simp] theorem State.release_acc (s : State B P) : s.release.acc = s.acc := rfl
@[simp] theorem State.release_cmd (s : State B P) : s.release.cmd = s.cmd := rfl
@[simp] theorem State.release_rsp (s : State B P) : s.release.rsp = s.rsp := rfl
@[simp] theorem State.release_out (s : State B P) : s.release.out = s.out := rfl
@[simp] theorem State.release_idx (s : State B P) : s.release.idx = s.idx := rfl
@[simp] theorem State.release_requestIndex (s : State B P) : s.release.requestIndex = s.requestIndex := rfl
@[simp] theorem State.release_requests (s : State B P) : s.release.requests = s.requests := rfl
@[simp] theorem State.release_responses (s : State B P) : s.release.responses = s.responses := rfl
@[simp] theorem State.release_refusals (s : State B P) : s.release.refusals = s.refusals := rfl
@[simp] theorem State.release_pinDraws (s : State B P) : s.release.pinDraws = s.pinDraws.tail := rfl
@[simp] theorem State.release_busDraws (s : State B P) : s.release.busDraws = s.busDraws := rfl

/-! ### State.conclude -/

@[simp] theorem State.conclude_params (s : State B P) (r : Response B P) : (s.conclude r).params = s.params := rfl
@[simp] theorem State.conclude_strategy (s : State B P) (r : Response B P) : (s.conclude r).strategy = s.strategy := rfl
@[simp] theorem State.conclude_csLine (s : State B P) (r : Response B P) : (s.conclude r).csLine = s.csLine := rfl
@[simp] theorem State.conclude_phase (s : State B P) (r : Response B P) : (s.conclude r).phase = s.phase := rfl
@[simp] theorem State.conclude_trace (s : State B P) (r : Response B P) : (s.conclude r).trace = s.trace := rfl
@[simp] theorem State.conclude_refused (s : State B P) (r : Response B P) : (s.conclude r).refused = s.refused := rfl
@[simp] theorem State.conclude_out (s : State B P) (r : Response B P) : (s.conclude r).out = (List.range s.params.chainLength).map (Config.freeOut s.requestIndex) := rfl
@[simp] theorem State.conclude_idx (s : State B P) (r : Response B P) : (s.conclude r).idx = Config.freeIdx s.requestIndex % (s.params.chainLength + 1) := rfl
@[simp] theorem State.conclude_requestIndex (s : State B P) (r : Response B P) : (s.conclude r).requestIndex = s.requestIndex + 1 := rfl
@[simp] theorem State.conclude_requests (s : State B P) (r : Response B P) : (s.conclude r).requests = s.requests := rfl
@[simp] theorem State.conclude_responses (s : State B P) (r : Response B P) : (s.conclude r).responses = s.responses ++ [r] := rfl
@[simp] theorem State.conclude_refusals (s : State B P) (r : Response B P) : (s.conclude r).refusals = s.refusals := rfl
@[simp] theorem State.conclude_pinDraws (s : State B P) (r : Response B P) : (s.conclude r).pinDraws = s.pinDraws := rfl
@[simp] theorem State.conclude_busDraws (s : State B P) (r : Response B P) : (s.conclude r).busDraws = s.busDraws := rfl

/-! ### State.runCalc -/

@[simp] theorem State.runCalc_params (s : State B P) (d : List Byte) : (s.runCalc d).params = s.params := rfl
@[simp] theorem State.runCalc_strategy (s : State B P) (d : List Byte) : (s.runCalc d).strategy = s.strategy := rfl
@[simp] theorem State.runCalc_csLine (s : State B P) (d : List Byte) : (s.runCalc d).csLine = s.csLine := rfl
@[simp] theorem State.runCalc_phase (s : State B P) (d : List Byte) : (s.runCalc d).phase = s.phase := rfl
@[simp] theorem State.runCalc_trace (s : State B P) (d : List Byte) : (s.runCalc d).trace = s.trace := rfl
@[simp] theorem State.runCalc_refused (s : State B P) (d : List Byte) : (s.runCalc d).refused = s.refused := rfl
@[simp] theorem State.runCalc_acc (s : State B P) (d : List Byte) : (s.runCalc d).acc = pecRegister pecTable d := rfl
@[simp] theorem State.runCalc_cmd (s : State B P) (d : List Byte) : (s.runCalc d).cmd = s.cmd := rfl
@[simp] theorem State.runCalc_rsp (s : State B P) (d : List Byte) : (s.runCalc d).rsp = s.rsp := rfl
@[simp] theorem State.runCalc_out (s : State B P) (d : List Byte) : (s.runCalc d).out = s.out := rfl
@[simp] theorem State.runCalc_idx (s : State B P) (d : List Byte) : (s.runCalc d).idx = s.idx := rfl
@[simp] theorem State.runCalc_requestIndex (s : State B P) (d : List Byte) : (s.runCalc d).requestIndex = s.requestIndex := rfl
@[simp] theorem State.runCalc_requests (s : State B P) (d : List Byte) : (s.runCalc d).requests = s.requests := rfl
@[simp] theorem State.runCalc_responses (s : State B P) (d : List Byte) : (s.runCalc d).responses = s.responses := rfl
@[simp] theorem State.runCalc_refusals (s : State B P) (d : List Byte) : (s.runCalc d).refusals = s.refusals := rfl
@[simp] theorem State.runCalc_pinDraws (s : State B P) (d : List Byte) : (s.runCalc d).pinDraws = s.pinDraws := rfl
@[simp] theorem State.runCalc_busDraws (s : State B P) (d : List Byte) : (s.runCalc d).busDraws = s.busDraws := rfl

/-! ### State.runFrame -/

@[simp] theorem State.runFrame_params (s : State B P) (opc : Word16) : (s.runFrame opc).params = s.params := rfl
@[simp] theorem State.runFrame_strategy (s : State B P) (opc : Word16) : (s.runFrame opc).strategy = s.strategy := rfl
@[simp] theorem State.runFrame_csLine (s : State B P) (opc : Word16) : (s.runFrame opc).csLine = s.csLine := rfl
@[simp] theorem State.runFrame_phase (s : State B P) (opc : Word16) : (s.runFrame opc).phase = s.phase := rfl
@[simp] theorem State.runFrame_trace (s : State B P) (opc : Word16) : (s.runFrame opc).trace = s.trace := rfl
@[simp] theorem State.runFrame_refused (s : State B P) (opc : Word16) : (s.runFrame opc).refused = s.refused := rfl
@[simp] theorem State.runFrame_acc (s : State B P) (opc : Word16) : (s.runFrame opc).acc = pecRegister pecTable (be16 opc) := rfl
@[simp] theorem State.runFrame_cmd (s : State B P) (opc : Word16) : (s.runFrame opc).cmd = frame opc := rfl
@[simp] theorem State.runFrame_rsp (s : State B P) (opc : Word16) : (s.runFrame opc).rsp = s.rsp := rfl
@[simp] theorem State.runFrame_out (s : State B P) (opc : Word16) : (s.runFrame opc).out = s.out := rfl
@[simp] theorem State.runFrame_idx (s : State B P) (opc : Word16) : (s.runFrame opc).idx = s.idx := rfl
@[simp] theorem State.runFrame_requestIndex (s : State B P) (opc : Word16) : (s.runFrame opc).requestIndex = s.requestIndex := rfl
@[simp] theorem State.runFrame_requests (s : State B P) (opc : Word16) : (s.runFrame opc).requests = s.requests := rfl
@[simp] theorem State.runFrame_responses (s : State B P) (opc : Word16) : (s.runFrame opc).responses = s.responses := rfl
@[simp] theorem State.runFrame_refusals (s : State B P) (opc : Word16) : (s.runFrame opc).refusals = s.refusals := rfl
@[simp] theorem State.runFrame_pinDraws (s : State B P) (opc : Word16) : (s.runFrame opc).pinDraws = s.pinDraws := rfl
@[simp] theorem State.runFrame_busDraws (s : State B P) (opc : Word16) : (s.runFrame opc).busDraws = s.busDraws := rfl

/-! ### State.takeRequest -/

@[simp] theorem State.takeRequest_params (s : State B P) : s.takeRequest.params = s.params := rfl
@[simp] theorem State.takeRequest_strategy (s : State B P) : s.takeRequest.strategy = s.strategy := rfl
@[simp] theorem State.takeRequest_csLine (s : State B P) : s.takeRequest.csLine = s.csLine := rfl
@[simp] theorem State.takeRequest_phase (s : State B P) : s.takeRequest.phase = s.phase := rfl
@[simp] theorem State.takeRequest_trace (s : State B P) : s.takeRequest.trace = s.trace := rfl
@[simp] theorem State.takeRequest_refused (s : State B P) : s.takeRequest.refused = s.refused := rfl
@[simp] theorem State.takeRequest_acc (s : State B P) : s.takeRequest.acc = s.acc := rfl
@[simp] theorem State.takeRequest_cmd (s : State B P) : s.takeRequest.cmd = s.cmd := rfl
@[simp] theorem State.takeRequest_rsp (s : State B P) : s.takeRequest.rsp = s.rsp := rfl
@[simp] theorem State.takeRequest_out (s : State B P) : s.takeRequest.out = s.out := rfl
@[simp] theorem State.takeRequest_idx (s : State B P) : s.takeRequest.idx = s.idx := rfl
@[simp] theorem State.takeRequest_requestIndex (s : State B P) : s.takeRequest.requestIndex = s.requestIndex := rfl
@[simp] theorem State.takeRequest_requests (s : State B P) : s.takeRequest.requests = s.requests.tail := rfl
@[simp] theorem State.takeRequest_responses (s : State B P) : s.takeRequest.responses = s.responses := rfl
@[simp] theorem State.takeRequest_refusals (s : State B P) : s.takeRequest.refusals = s.refusals := rfl
@[simp] theorem State.takeRequest_pinDraws (s : State B P) : s.takeRequest.pinDraws = s.pinDraws := rfl
@[simp] theorem State.takeRequest_busDraws (s : State B P) : s.takeRequest.busDraws = s.busDraws := rfl

/-! ### State.issue -/

@[simp] theorem State.issue_params (s : State B P) (q : HostRequest) : (s.issue q).params = s.params := rfl
@[simp] theorem State.issue_strategy (s : State B P) (q : HostRequest) : (s.issue q).strategy = s.strategy := rfl
@[simp] theorem State.issue_csLine (s : State B P) (q : HostRequest) : (s.issue q).csLine = s.csLine := rfl
@[simp] theorem State.issue_phase (s : State B P) (q : HostRequest) : (s.issue q).phase = s.phase := rfl
@[simp] theorem State.issue_trace (s : State B P) (q : HostRequest) : (s.issue q).trace = s.trace := rfl
@[simp] theorem State.issue_refused (s : State B P) (q : HostRequest) : (s.issue q).refused = s.refused := rfl
@[simp] theorem State.issue_acc (s : State B P) (q : HostRequest) : (s.issue q).acc = s.acc := rfl
@[simp] theorem State.issue_cmd (s : State B P) (q : HostRequest) : (s.issue q).cmd = s.cmd := rfl
@[simp] theorem State.issue_rsp (s : State B P) (q : HostRequest) : (s.issue q).rsp = s.rsp := rfl
@[simp] theorem State.issue_out (s : State B P) (q : HostRequest) : (s.issue q).out = s.out := rfl
@[simp] theorem State.issue_idx (s : State B P) (q : HostRequest) : (s.issue q).idx = s.idx := rfl
@[simp] theorem State.issue_requestIndex (s : State B P) (q : HostRequest) : (s.issue q).requestIndex = s.requestIndex := rfl
@[simp] theorem State.issue_requests (s : State B P) (q : HostRequest) : (s.issue q).requests = s.requests ++ [q] := rfl
@[simp] theorem State.issue_responses (s : State B P) (q : HostRequest) : (s.issue q).responses = s.responses := rfl
@[simp] theorem State.issue_refusals (s : State B P) (q : HostRequest) : (s.issue q).refusals = s.refusals := rfl
@[simp] theorem State.issue_pinDraws (s : State B P) (q : HostRequest) : (s.issue q).pinDraws = s.pinDraws := rfl
@[simp] theorem State.issue_busDraws (s : State B P) (q : HostRequest) : (s.issue q).busDraws = s.busDraws := rfl

/-! ### State.placeFirst -/

@[simp] theorem State.placeFirst_params (s : State B P) (q : HostRequest) : (s.placeFirst q).params = s.params := rfl
@[simp] theorem State.placeFirst_strategy (s : State B P) (q : HostRequest) : (s.placeFirst q).strategy = s.strategy := rfl
@[simp] theorem State.placeFirst_csLine (s : State B P) (q : HostRequest) : (s.placeFirst q).csLine = s.csLine := rfl
@[simp] theorem State.placeFirst_phase (s : State B P) (q : HostRequest) : (s.placeFirst q).phase = s.phase := rfl
@[simp] theorem State.placeFirst_trace (s : State B P) (q : HostRequest) : (s.placeFirst q).trace = s.trace := rfl
@[simp] theorem State.placeFirst_refused (s : State B P) (q : HostRequest) : (s.placeFirst q).refused = s.refused := rfl
@[simp] theorem State.placeFirst_acc (s : State B P) (q : HostRequest) : (s.placeFirst q).acc = s.acc := rfl
@[simp] theorem State.placeFirst_cmd (s : State B P) (q : HostRequest) : (s.placeFirst q).cmd = s.cmd := rfl
@[simp] theorem State.placeFirst_rsp (s : State B P) (q : HostRequest) : (s.placeFirst q).rsp = s.rsp := rfl
@[simp] theorem State.placeFirst_out (s : State B P) (q : HostRequest) : (s.placeFirst q).out = s.out := rfl
@[simp] theorem State.placeFirst_idx (s : State B P) (q : HostRequest) : (s.placeFirst q).idx = s.idx := rfl
@[simp] theorem State.placeFirst_requestIndex (s : State B P) (q : HostRequest) : (s.placeFirst q).requestIndex = s.requestIndex := rfl
@[simp] theorem State.placeFirst_requests (s : State B P) (q : HostRequest) : (s.placeFirst q).requests = q :: s.requests := rfl
@[simp] theorem State.placeFirst_responses (s : State B P) (q : HostRequest) : (s.placeFirst q).responses = s.responses := rfl
@[simp] theorem State.placeFirst_refusals (s : State B P) (q : HostRequest) : (s.placeFirst q).refusals = s.refusals := rfl
@[simp] theorem State.placeFirst_pinDraws (s : State B P) (q : HostRequest) : (s.placeFirst q).pinDraws = s.pinDraws := rfl
@[simp] theorem State.placeFirst_busDraws (s : State B P) (q : HostRequest) : (s.placeFirst q).busDraws = s.busDraws := rfl

/-! ### The next draws -/

@[simp] theorem State.setPhase_pinDraw (s : State B P) (m : MachineState) : (s.setPhase m).pinDraw = s.pinDraw := rfl
@[simp] theorem State.setPhase_busDraw (s : State B P) (m : MachineState) (n : Nat) : (s.setPhase m).busDraw n = s.busDraw n := rfl
@[simp] theorem State.setStrategy_pinDraw (s : State B P) (g : Strategy) : (s.setStrategy g).pinDraw = s.pinDraw := rfl
@[simp] theorem State.setStrategy_busDraw (s : State B P) (g : Strategy) (n : Nat) : (s.setStrategy g).busDraw n = s.busDraw n := rfl
@[simp] theorem State.setAcc_pinDraw (s : State B P) (v : Word16) : (s.setAcc v).pinDraw = s.pinDraw := rfl
@[simp] theorem State.setAcc_busDraw (s : State B P) (v : Word16) (n : Nat) : (s.setAcc v).busDraw n = s.busDraw n := rfl
@[simp] theorem State.setCmd_pinDraw (s : State B P) (f : CommandFrame) : (s.setCmd f).pinDraw = s.pinDraw := rfl
@[simp] theorem State.setCmd_busDraw (s : State B P) (f : CommandFrame) (n : Nat) : (s.setCmd f).busDraw n = s.busDraw n := rfl
@[simp] theorem State.setRsp_pinDraw (s : State B P) (r : ResponseFrame) : (s.setRsp r).pinDraw = s.pinDraw := rfl
@[simp] theorem State.setRsp_busDraw (s : State B P) (r : ResponseFrame) (n : Nat) : (s.setRsp r).busDraw n = s.busDraw n := rfl
@[simp] theorem State.clearOut_pinDraw (s : State B P) : s.clearOut.pinDraw = s.pinDraw := rfl
@[simp] theorem State.clearOut_busDraw (s : State B P) (n : Nat) : s.clearOut.busDraw n = s.busDraw n := rfl
@[simp] theorem State.storeOut_pinDraw (s : State B P) (v : Triple) : (s.storeOut v).pinDraw = s.pinDraw := rfl
@[simp] theorem State.storeOut_busDraw (s : State B P) (v : Triple) (n : Nat) : (s.storeOut v).busDraw n = s.busDraw n := rfl
@[simp] theorem State.abandonBuffers_pinDraw (s : State B P) : s.abandonBuffers.pinDraw = s.pinDraw := rfl
@[simp] theorem State.abandonBuffers_busDraw (s : State B P) (n : Nat) : s.abandonBuffers.busDraw n = s.busDraw n := rfl
@[simp] theorem State.respond_pinDraw (s : State B P) (r : Response B P) : (s.respond r).pinDraw = s.pinDraw := rfl
@[simp] theorem State.respond_busDraw (s : State B P) (r : Response B P) (n : Nat) : (s.respond r).busDraw n = s.busDraw n := rfl
@[simp] theorem State.refuse_pinDraw (s : State B P) (why : RefuseReason) : (s.refuse why).pinDraw = s.pinDraw := rfl
@[simp] theorem State.refuse_busDraw (s : State B P) (why : RefuseReason) (n : Nat) : (s.refuse why).busDraw n = s.busDraw n := rfl
@[simp] theorem State.conclude_pinDraw (s : State B P) (r : Response B P) : (s.conclude r).pinDraw = s.pinDraw := rfl
@[simp] theorem State.conclude_busDraw (s : State B P) (r : Response B P) (n : Nat) : (s.conclude r).busDraw n = s.busDraw n := rfl
@[simp] theorem State.runCalc_pinDraw (s : State B P) (d : List Byte) : (s.runCalc d).pinDraw = s.pinDraw := rfl
@[simp] theorem State.runCalc_busDraw (s : State B P) (d : List Byte) (n : Nat) : (s.runCalc d).busDraw n = s.busDraw n := rfl
@[simp] theorem State.runFrame_pinDraw (s : State B P) (opc : Word16) : (s.runFrame opc).pinDraw = s.pinDraw := rfl
@[simp] theorem State.runFrame_busDraw (s : State B P) (opc : Word16) (n : Nat) : (s.runFrame opc).busDraw n = s.busDraw n := rfl
@[simp] theorem State.takeRequest_pinDraw (s : State B P) : s.takeRequest.pinDraw = s.pinDraw := rfl
@[simp] theorem State.takeRequest_busDraw (s : State B P) (n : Nat) : s.takeRequest.busDraw n = s.busDraw n := rfl
@[simp] theorem State.issue_pinDraw (s : State B P) (q : HostRequest) : (s.issue q).pinDraw = s.pinDraw := rfl
@[simp] theorem State.issue_busDraw (s : State B P) (q : HostRequest) (n : Nat) : (s.issue q).busDraw n = s.busDraw n := rfl
@[simp] theorem State.placeFirst_pinDraw (s : State B P) (q : HostRequest) : (s.placeFirst q).pinDraw = s.pinDraw := rfl
@[simp] theorem State.placeFirst_busDraw (s : State B P) (q : HostRequest) (n : Nat) : (s.placeFirst q).busDraw n = s.busDraw n := rfl

/-- The next draws of two states with the same list of draws and the same number of calls made are the same. -/
theorem State.pinDraw_congr {s t : State B P} (h : t.pinDraws = s.pinDraws) (hn : t.trace.length = s.trace.length) :
    t.pinDraw = s.pinDraw := by
  simp only [State.pinDraw, h, hn]

theorem State.busDraw_congr {s t : State B P} (n : Nat) (h : t.busDraws = s.busDraws)
    (hn : t.trace.length = s.trace.length) : t.busDraw n = s.busDraw n := by
  simp only [State.busDraw, h, hn]

end Sys2Proof.Machine
end

