-- ==== Sys2Proof/Laws/Ops.lean ====
section
/-! SUPPORT. One lemma per shared operation, saying once what it can do: received bytes, the draws of a sequence of
calls, RELEASE and FAIL, and the end of an operation. -/

namespace Sys2Proof.Machine

open Sys2Proof

variable {B P : Type}

/-! ### Received bytes -/

@[simp] theorem receivedBytes_length (n k : Nat) (rx : List Byte) : (receivedBytes n k rx).length = n := by
  simp [receivedBytes]

/-- A draw of the right length is received as it is. -/
theorem receivedBytes_of_length {n : Nat} (k : Nat) {rx : List Byte} (h : rx.length = n) :
    receivedBytes n k rx = rx := by
  apply List.ext_getElem (by simp [h])
  intro i h1 h2
  simp [receivedBytes, h2]

/-- A transfer receives as many bytes as it transmits (00_scope.md R26). -/
theorem State.busDraw_ok_length {s : State B P} {n : Nat} {rx : List Byte} (h : s.busDraw n = .ok rx) :
    rx.length = n := by
  unfold State.busDraw fitResult at h
  split at h
  · cases h
    exact receivedBytes_length _ _ _
  · cases h

/-! ### The draws of a sequence of calls -/

/-- `u` is as far along the draws as `s` after `calls`. -/
structure DrawsAfter (s u : State B P) (calls : List (Event B P)) : Prop where
  pins : u.pinDraws = s.pinDraws.drop (calls.countP Event.isPin)
  buses : u.busDraws = s.busDraws.drop (calls.countP fun e => !e.isPin)
  count : u.trace.length = s.trace.length + calls.length

/-- `Supplies` reads the draws and the number of calls made, and nothing else. -/
theorem Supplies.congr {b : List (Event B P)} : ∀ {s u : State B P}, u.pinDraws = s.pinDraws → u.busDraws = s.busDraws →
    u.trace.length = s.trace.length → (Supplies b s ↔ Supplies b u) := by
  induction b with
  | nil => intros; exact Iff.rfl
  | cons e es ih =>
    intro s u hp hb hn
    cases e with
    | pinLow r =>
      simp only [Supplies, State.pinDraw_congr hp hn]
      exact and_congr_right fun _ => ih (by simp [hp]) (by simp [hb]) (by simp [hn])
    | pinHigh r =>
      simp only [Supplies, State.pinDraw_congr hp hn]
      exact and_congr_right fun _ => ih (by simp [hp]) (by simp [hb]) (by simp [hn])
    | xfer tx r =>
      simp only [Supplies, State.busDraw_congr _ hb hn]
      exact and_congr_right fun _ => ih (by simp [hp]) (by simp [hb]) (by simp [hn])

/-- The draws of two sequences of calls are those of the first, then those of the second from where it ends. -/
theorem Supplies.append {a b : List (Event B P)} : ∀ {s u : State B P}, DrawsAfter s u a →
    (Supplies (a ++ b) s ↔ Supplies a s ∧ Supplies b u) := by
  induction a with
  | nil =>
    intro s u h
    simpa [Supplies] using Supplies.congr (by simpa using h.pins) (by simpa using h.buses) (by simpa using h.count)
  | cons e es ih =>
    intro s u h
    cases e with
    | pinLow r =>
      have : DrawsAfter s.pinSetLow u es :=
        ⟨by simpa [List.countP_cons, Event.isPin, List.drop_drop, Nat.add_comm] using h.pins, by simpa [List.countP_cons, Event.isPin] using h.buses,
          by simpa [Nat.add_assoc, Nat.add_comm 1] using h.count⟩
      simp only [List.cons_append, Supplies, ih this, and_assoc]
    | pinHigh r =>
      have : DrawsAfter s.pinSetHigh u es :=
        ⟨by simpa [List.countP_cons, Event.isPin, List.drop_drop, Nat.add_comm] using h.pins, by simpa [List.countP_cons, Event.isPin] using h.buses,
          by simpa [Nat.add_assoc, Nat.add_comm 1] using h.count⟩
      simp only [List.cons_append, Supplies, ih this, and_assoc]
    | xfer tx r =>
      have : DrawsAfter (s.busTransfer tx) u es :=
        ⟨by simpa [Event.isPin] using h.pins, by simpa [Event.isPin, List.drop_drop, Nat.add_comm] using h.buses,
          by simpa [Nat.add_assoc, Nat.add_comm 1] using h.count⟩
      simp only [List.cons_append, Supplies, ih this, and_assoc]

/-! ### Inside an operation -/

/-- Inside an operation that began in `s`, `u` is reached after `calls`: of the persistent fields only the line, the
phase, the trace and the draws can differ from `s`. -/
structure Within (s u : State B P) (calls : List (Event B P)) : Prop where
  params : u.params = s.params
  strategy : u.strategy = s.strategy
  trace : u.trace = s.trace ++ calls
  refused : u.refused = s.refused
  requestIndex : u.requestIndex = s.requestIndex
  requests : u.requests = s.requests
  responses : u.responses = s.responses
  refusals : u.refusals = s.refusals
  pinDraws : u.pinDraws = s.pinDraws.drop (calls.countP Event.isPin)
  busDraws : u.busDraws = s.busDraws.drop (calls.countP fun e => !e.isPin)

theorem Within.refl (s : State B P) : Within s s [] := by constructor <;> simp

theorem Within.draws {s u : State B P} {calls : List (Event B P)} (h : Within s u calls) : DrawsAfter s u calls :=
  ⟨h.pinDraws, h.busDraws, by simp [h.trace]⟩

theorem Within.trans {s u v : State B P} {a b : List (Event B P)} (h : Within s u a) (k : Within u v b) :
    Within s v (a ++ b) where
  params := k.params.trans h.params
  strategy := k.strategy.trans h.strategy
  trace := by rw [k.trace, h.trace, List.append_assoc]
  refused := k.refused.trans h.refused
  requestIndex := k.requestIndex.trans h.requestIndex
  requests := k.requests.trans h.requests
  responses := k.responses.trans h.responses
  refusals := k.refusals.trans h.refusals
  pinDraws := by rw [k.pinDraws, h.pinDraws, List.drop_drop, List.countP_append]
  busDraws := by rw [k.busDraws, h.busDraws, List.drop_drop, List.countP_append]

theorem within_pinSetLow (s : State B P) : Within s s.pinSetLow [.pinLow s.pinDraw] := by
  constructor <;> simp [Event.isPin]

theorem within_pinSetHigh (s : State B P) : Within s s.pinSetHigh [.pinHigh s.pinDraw] := by
  constructor <;> simp [Event.isPin]

theorem within_busTransfer (s : State B P) (tx : List Byte) :
    Within s (s.busTransfer tx) [.xfer tx (s.busDraw tx.length)] := by
  constructor <;> simp [Event.isPin]

theorem within_release (s : State B P) : Within s s.release [.pinHigh s.pinDraw] := by
  constructor <;> simp [Event.isPin]

theorem within_runCalc (s : State B P) (d : List Byte) : Within s (s.runCalc d) [] := by constructor <;> simp

theorem within_runFrame (s : State B P) (opc : Word16) : Within s (s.runFrame opc) [] := by constructor <;> simp

theorem within_setRsp (s : State B P) (r : ResponseFrame) : Within s (s.setRsp r) [] := by constructor <;> simp

theorem within_clearOut (s : State B P) : Within s s.clearOut [] := by constructor <;> simp

theorem within_storeOut (s : State B P) (v : Triple) : Within s (s.storeOut v) [] := by constructor <;> simp

theorem within_setPhase (s : State B P) (m : MachineState) : Within s (s.setPhase m) [] := by constructor <;> simp

/-! ### The end of an operation -/

/-- What returning a response leaves, from inside an operation. -/
theorem Within.conclude {s u : State B P} {calls : List (Event B P)} (h : Within s u calls) (r : Response B P) :
    Concludes s (u.conclude r) r calls u.csLine u.phase := by
  constructor <;> simp [h.params, h.strategy, h.trace, h.refused, h.requestIndex, h.requests, h.responses, h.refusals,
    h.pinDraws, h.busDraws]

/-- FAIL makes one PinSetHigh and returns the error (42_transfer.md R171). -/
theorem Within.fail {s u : State B P} {calls : List (Event B P)} (h : Within s u calls) (e : Error B P) :
    Concludes s (u.fail e) (.err e) (calls ++ [.pinHigh u.pinDraw]) (levelAfter .deasserted u.pinDraw) .idle := by
  simpa [State.fail] using (h.trans (within_release u)).conclude (.err e)

/-- A concluding release makes one PinSetHigh and returns the value, or ChipSelectFailure (60_exceptions.md R233). -/
theorem Within.releaseAndReturn {s u : State B P} {calls : List (Event B P)} (h : Within s u calls) (v : Value) :
    Concludes s (u.releaseAndReturn v) (releaseResponse v u.pinDraw) (calls ++ [.pinHigh u.pinDraw])
      (levelAfter .deasserted u.pinDraw) .idle := by
  have key := (h.trans (within_release u)).conclude (releaseResponse v u.pinDraw)
  have : u.releaseAndReturn v = u.release.conclude (releaseResponse v u.pinDraw) := by
    cases hx : u.pinDraw <;> simp [State.releaseAndReturn, releaseResponse, hx]
  rw [this]
  simpa using key

/-- An operation that has made `a` and then concludes with `b` concludes with `a ++ b`. -/
theorem Within.concludes {s u t : State B P} {a b : List (Event B P)} {r : Response B P} {l : Line} {h : Phase}
    (w : Within s u a) (c : Concludes u t r b l h) : Concludes s t r (a ++ b) l h where
  params := c.params.trans w.params
  strategy := c.strategy.trans w.strategy
  csLine := c.csLine
  phase := c.phase
  trace := by rw [c.trace, w.trace, List.append_assoc]
  refused := c.refused.trans w.refused
  requestIndex := by rw [c.requestIndex, w.requestIndex]
  requests := c.requests.trans w.requests
  responses := by rw [c.responses, w.responses]
  refusals := c.refusals.trans w.refusals
  pinDraws := by rw [c.pinDraws, w.pinDraws, List.drop_drop, List.countP_append]
  busDraws := by rw [c.busDraws, w.busDraws, List.drop_drop, List.countP_append]

/-- What a refusal leaves (60_exceptions.md R231). -/
theorem refuses_refuse (s : State B P) (why : RefuseReason) : Refuses s (s.refuse why) why := rfl

/-! ### Frames and payloads -/

@[simp] theorem be16_length (v : Word16) : (be16 v).length = 2 := rfl

@[simp] theorem calcPec_length (d : List Byte) : (calcPec d).length = 2 := rfl

@[simp] theorem commandBytes_length (f : CommandFrame) : (commandBytes f).length = 4 := rfl

@[simp] theorem responseBytes_length (r : ResponseFrame) : r.bytes.length = 8 := rfl

@[simp] theorem payload_length (r : ResponseFrame) : (payload r).length = 6 := rfl

@[simp] theorem readTx_length : readTx.length = 8 := rfl

/-- The bytes of a command frame: the opcode big-endian, then its checksum (41_framing.md R151). -/
theorem commandBytes_frame (opc : Word16) : commandBytes (frame opc) = be16 opc ++ calcPec (be16 opc) := rfl

/-- VALIDATE decodes exactly the valid frames (41_framing.md R156). -/
theorem validate_eq (r : ResponseFrame) : validate r = if validFrame r then some (decodePayload r) else none := by
  simp [validate, validFrame]

@[simp] theorem responseFrameOf_bytes (r : ResponseFrame) : responseFrameOf r.bytes = r := rfl

/-- Eight received bytes are the bytes of their frame. -/
theorem bytes_responseFrameOf {rx : List Byte} (h : rx.length = 8) : (responseFrameOf rx).bytes = rx := by
  match rx, h with
  | [_, _, _, _, _, _, _, _], _ => rfl

/-! ### Renaming causes (00_scope.md R20): where the list names the draw, each operation commutes with it -/

section Renaming

variable {C Q : Type} (f : B → C) (g : P → Q)

@[simp] theorem State.mapCauses_params (s : State B P) : (s.mapCauses f g).params = s.params := rfl
@[simp] theorem State.mapCauses_strategy (s : State B P) : (s.mapCauses f g).strategy = s.strategy := rfl
@[simp] theorem State.mapCauses_csLine (s : State B P) : (s.mapCauses f g).csLine = s.csLine := rfl
@[simp] theorem State.mapCauses_phase (s : State B P) : (s.mapCauses f g).phase = s.phase := rfl
@[simp] theorem State.mapCauses_rsp (s : State B P) : (s.mapCauses f g).rsp = s.rsp := rfl
@[simp] theorem State.mapCauses_out (s : State B P) : (s.mapCauses f g).out = s.out := rfl
@[simp] theorem State.mapCauses_requestIndex (s : State B P) : (s.mapCauses f g).requestIndex = s.requestIndex := rfl

@[simp] theorem levelAfter_renamePin (l : Line) (x : PinResult P) : levelAfter l (renamePin g x) = levelAfter l x := by
  cases x <;> rfl

theorem State.mapCauses_pinDraw {s : State B P} (h : s.pinDraws ≠ []) :
    (s.mapCauses f g).pinDraw = renamePin g s.pinDraw := by
  obtain ⟨x, xs, hx⟩ := List.exists_cons_of_ne_nil h
  simp [State.pinDraw, State.mapCauses, hx]

theorem State.mapCauses_busDraw {s : State B P} (n : Nat) (h : s.busDraws ≠ []) :
    (s.mapCauses f g).busDraw n = renameBus f (s.busDraw n) := by
  obtain ⟨x, xs, hx⟩ := List.exists_cons_of_ne_nil h
  cases x <;> simp [State.busDraw, State.mapCauses, hx, renameBus, fitResult]

theorem State.mapCauses_pinSetLow {s : State B P} (h : s.pinDraws ≠ []) :
    (s.mapCauses f g).pinSetLow = s.pinSetLow.mapCauses f g := by
  unfold State.pinSetLow
  rw [State.mapCauses_pinDraw f g h, levelAfter_renamePin]
  simp [State.mapCauses, Event.mapCauses]

theorem State.mapCauses_pinSetHigh {s : State B P} (h : s.pinDraws ≠ []) :
    (s.mapCauses f g).pinSetHigh = s.pinSetHigh.mapCauses f g := by
  unfold State.pinSetHigh
  rw [State.mapCauses_pinDraw f g h, levelAfter_renamePin]
  simp [State.mapCauses, Event.mapCauses]

theorem State.mapCauses_busTransfer {s : State B P} (tx : List Byte) (h : s.busDraws ≠ []) :
    (s.mapCauses f g).busTransfer tx = (s.busTransfer tx).mapCauses f g := by
  unfold State.busTransfer
  rw [State.mapCauses_busDraw f g _ h]
  simp [State.mapCauses, Event.mapCauses]

theorem State.mapCauses_conclude (s : State B P) (r : Response B P) :
    (s.mapCauses f g).conclude (r.mapCauses f g) = (s.conclude r).mapCauses f g := by
  simp [State.mapCauses, State.conclude, State.respond, State.abandonBuffers]

theorem State.mapCauses_release {s : State B P} (h : s.pinDraws ≠ []) :
    (s.mapCauses f g).release = s.release.mapCauses f g := by
  unfold State.release
  rw [State.mapCauses_pinSetHigh f g h]
  rfl

theorem State.mapCauses_fail {s : State B P} (e : Error B P) (h : s.pinDraws ≠ []) :
    (s.mapCauses f g).fail (e.mapCauses f g) = (s.fail e).mapCauses f g := by
  unfold State.fail
  rw [State.mapCauses_release f g h]
  exact State.mapCauses_conclude f g _ (.err e)

theorem State.mapCauses_releaseAndReturn {s : State B P} (v : Value) (h : s.pinDraws ≠ []) :
    (s.mapCauses f g).releaseAndReturn v = (s.releaseAndReturn v).mapCauses f g := by
  unfold State.releaseAndReturn
  rw [State.mapCauses_release f g h, State.mapCauses_pinDraw f g h]
  cases s.pinDraw with
  | ok => exact State.mapCauses_conclude f g _ (.ok v)
  | err c => exact State.mapCauses_conclude f g _ (.err (.chipSelectFailure c))

end Renaming

end Sys2Proof.Machine
end

