-- ==== Sys2Proof/Laws/Checksum.lean ====
section
/-! SUPPORT. The checksum register over GF(2) (40_checksum.md R134), and the byte orders of 16-bit values (00_scope.md
R23, R24). -/

namespace Sys2Proof.Machine

open Sys2Proof

/-! ### The bit-serial register is linear -/

theorem pecBit_xor (b c : Byte) (x y : BitVec 15) (k : Nat) :
    pecBit (b ^^^ c) (x ^^^ y) k = pecBit b x k ^^^ pecBit c y k := by
  unfold pecBit
  simp only [BitVec.getLsbD_xor, BitVec.shiftLeft_xor_distrib]
  generalize x <<< 1 = u
  generalize y <<< 1 = v
  generalize BitVec.setWidth 15 pecPoly = p
  cases b.getLsbD k <;> cases c.getLsbD k <;> cases x.getLsbD 14 <;> cases y.getLsbD 14 <;> simp <;>
    apply BitVec.eq_of_getLsbD_eq <;> intro i hi <;> simp only [BitVec.getLsbD_xor] <;>
    cases u.getLsbD i <;> cases v.getLsbD i <;> cases p.getLsbD i <;> rfl

theorem pecByteBits_xor (x y : BitVec 15) (b c : Byte) :
    pecByteBits (x ^^^ y) (b ^^^ c) = pecByteBits x b ^^^ pecByteBits y c := by
  simp only [pecByteBits, List.foldl, pecBit_xor]

/-! ### Byte orders -/

theorem be16_xor (a b : Word16) : List.zipWith (· ^^^ ·) (be16 a) (be16 b) = be16 (a ^^^ b) := by
  simp [be16, hiByte, loByte, BitVec.extractLsb'_xor]

theorem be16_injective {a b : Word16} (h : be16 a = be16 b) : a = b := by
  simp only [be16, hiByte, loByte, List.cons.injEq, and_true] at h
  apply BitVec.eq_of_getLsbD_eq
  intro i hi
  by_cases k : i < 8
  · have := congrArg (fun v => v.getLsbD i) h.2
    simpa [k] using this
  · have := congrArg (fun v => v.getLsbD (i - 8)) h.1
    simpa [show 8 + (i - 8) = i by omega, show i - 8 < 8 by omega] using this

/-- A little-endian pair is the high byte before the low byte. -/
theorem le16_eq_append (a b : Byte) : le16 a b = b ++ a := by
  unfold le16
  apply BitVec.eq_of_getLsbD_eq
  intro i hi
  simp only [BitVec.getLsbD_or, BitVec.getLsbD_setWidth, BitVec.getLsbD_shiftLeft, BitVec.getLsbD_append]
  by_cases h : i < 8
  · simp [h, hi]
  · simp [h, hi, show i - 8 < 16 by omega, BitVec.getLsbD_of_ge a i (by omega)]

theorem le16_loByte_hiByte (v : Word16) : le16 (loByte v) (hiByte v) = v := by
  rw [le16_eq_append]
  apply BitVec.eq_of_getLsbD_eq
  intro i hi
  simp only [BitVec.getLsbD_append, loByte, hiByte, BitVec.getLsbD_extractLsb']
  by_cases h : i < 8
  · simp [h]
  · simp [h, show i - 8 < 8 by omega, show 8 + (i - 8) = i by omega]

theorem loByte_le16 (a b : Byte) : loByte (le16 a b) = a := by
  rw [le16_eq_append]; unfold loByte
  apply BitVec.eq_of_getLsbD_eq
  intro i hi
  simp only [BitVec.getLsbD_append, BitVec.getLsbD_extractLsb']
  simp [hi]

theorem hiByte_le16 (a b : Byte) : hiByte (le16 a b) = b := by
  rw [le16_eq_append]; unfold hiByte
  apply BitVec.eq_of_getLsbD_eq
  intro i hi
  simp only [BitVec.getLsbD_append, BitVec.getLsbD_extractLsb']
  simp [hi]

end Sys2Proof.Machine
end

