-- ==== Sys2Proof/Laws/PerInstr.lean ====
section
/-! SUPPORT. Statements made per constructor of `Instr`. `TableRow`: the request word of an instruction matches its
row of spec/opcode_table.json. -/

namespace Sys2Proof.Laws.TableRow

open Sys2Proof

/-- The encoded word matches the mask and value of the instruction's opcode table row. -/
def Statement (i : Instr) : Prop := (opcodeRow i).admits (encode i).word

/-- A word whose top half is fixed: the low half does not matter to a mask that is zero there. -/
theorem topHalf (op : Byte) (arg : Word16) :
    requestWord op arg &&& 0xFFFF0000#32 = (op.setWidth 32 <<< 24) := by
  unfold requestWord
  apply BitVec.eq_of_getLsbD_eq
  intro k hk
  simp only [BitVec.getLsbD_and, BitVec.getLsbD_append, BitVec.getLsbD_shiftLeft, BitVec.getLsbD_setWidth]
  by_cases h16 : k < 16
  · have : (0xFFFF0000#32).getLsbD k = false := by
      have h : ∀ j : Fin 16, (0xFFFF0000#32).getLsbD j.val = false := by decide
      exact h ⟨k, h16⟩
    have h24 : k < 24 := by omega
    simp [this, h24]
  · have : (0xFFFF0000#32).getLsbD k = true := by
      have h : ∀ j : Fin 16, (0xFFFF0000#32).getLsbD (16 + j.val) = true := by decide
      have := h ⟨k - 16, by omega⟩
      simpa [show 16 + (k - 16) = k by omega] using this
    by_cases h24 : k < 24
    · simp [h16, h24, this, show k - 16 < 8 by omega]
    · have e : k - 16 - 8 = k - 24 := by omega
      simp [h16, h24, this, e, show ¬ k - 16 < 8 by omega, hk, show k - 24 < 32 by omega]

theorem calcPec (d : List Byte) : Statement (.calcPec d) := by
  simpa [Statement, OpcodeRow.admits, opcodeRow, encode] using topHalf 0x01#8 (BitVec.ofNat 16 d.length)

theorem frame (opc : Word16) : Statement (.frame opc) := by
  simpa [Statement, OpcodeRow.admits, opcodeRow, encode] using topHalf 0x02#8 opc

theorem validate (r : ResponseFrame) : Statement (.validate r) := by
  show requestWord 0x03#8 0#16 &&& 0xFFFFFFFF#32 = 0x03000000#32
  decide

theorem startconv (md : BitVec 2) (dcp : Bool) (ch : BitVec 3) : Statement (.startconv md dcp ch) := by
  revert md dcp ch
  unfold Statement OpcodeRow.admits
  decide

theorem read (reg : BitVec 5) : Statement (.read reg) := by
  revert reg
  unfold Statement OpcodeRow.admits
  decide

theorem poll : Statement .poll := by
  unfold Statement OpcodeRow.admits
  decide

theorem switch (target : Strategy) : Statement (.switch target) := by
  unfold Statement OpcodeRow.admits
  cases target <;> decide

end Sys2Proof.Laws.TableRow
end

