-- ==== Sys2Proof/Laws/Encoding.lean ====
section
/-! SUPPORT. The fields of a host request word (30_encoding.md R100), and what matching an opcode table row says of
them. -/

namespace Sys2Proof

/-- The OP of a composed word. -/
@[simp] theorem opField_requestWord (op : Byte) (arg : Word16) : opField (requestWord op arg) = op := by
  unfold opField requestWord
  apply BitVec.eq_of_getLsbD_eq
  intro k hk
  simp only [BitVec.getLsbD_append, BitVec.getLsbD_extractLsb']
  simp [hk, show ¬ 24 + k < 16 by omega, show ¬ (24 + k - 16) < 8 by omega, show (24 + k - 16 - 8) = k by omega]

/-- ARG[23:16] of a composed word is zero. -/
@[simp] theorem argHigh_requestWord (op : Byte) (arg : Word16) : argHigh (requestWord op arg) = 0 := by
  unfold argHigh requestWord
  apply BitVec.eq_of_getLsbD_eq
  intro k hk
  simp only [BitVec.getLsbD_append, BitVec.getLsbD_extractLsb']
  simp [hk]

/-- ARG[15:0] of a composed word. -/
@[simp] theorem argLow_requestWord (op : Byte) (arg : Word16) : argLow (requestWord op arg) = arg := by
  unfold argLow requestWord
  apply BitVec.eq_of_getLsbD_eq
  intro k hk
  simp only [BitVec.getLsbD_append, BitVec.getLsbD_extractLsb']
  simp [hk]

/-- A word whose ARG[23:16] is zero is composed of its fields. -/
theorem requestWord_of_fields (w : HostWord) (h : argHigh w = 0) : w = requestWord (opField w) (argLow w) := by
  unfold requestWord
  rw [show 0#8 = argHigh w from h.symm]
  unfold argHigh opField argLow
  apply BitVec.eq_of_getLsbD_eq
  intro k hk
  simp only [BitVec.getLsbD_append, BitVec.getLsbD_extractLsb']
  by_cases h1 : k < 16
  · simp [h1]
  · by_cases h2 : k - 16 < 8
    · simp [h1, h2, show 16 + (k-16) = k by omega]
    · simp [h1, h2, show 24 + (k-16-8) = k by omega, show k - 16 - 8 < 8 by omega]

/-- Where the mask of a row is all ones, a matching word has the row's bits. -/
theorem extract_of_mask {w m v : HostWord} (h : w &&& m = v) (lo n : Nat) (hm : m.extractLsb' lo n = BitVec.allOnes n) :
    w.extractLsb' lo n = v.extractLsb' lo n := by
  rw [← h, BitVec.extractLsb'_and, hm, BitVec.and_allOnes]

/-- A word that matches a row has the row's OP. -/
theorem opField_of_admits {j : Instr} {w : HostWord} (h : (opcodeRow j).admits w) : opField w = opField (opcodeRow j).value := by
  unfold opField
  cases j <;> exact extract_of_mask h 24 8 (by simp only [opcodeRow]; decide)

end Sys2Proof
end

