-- ==== Sys2Proof/Laws/Transfer.lean ====
section
/-! SUPPORT. What the two shared sub-sequences of the transfer engine can do: ASSERT_AND_SEND (42_transfer.md R172) and
the device loop of READ_REGISTER_GROUP (R181 to R183). -/

namespace Sys2Proof.Machine

open Sys2Proof

variable {B P : Type}

/-- The calls of a command that was transmitted. -/
abbrev sentCalls (opc : Word16) (rx : List Byte) : List (Event B P) := [.pinLow .ok, commandEvent opc (.ok rx)]

/-- Everything ASSERT_AND_SEND can do (R172): the assert fails, the command fails, or it goes on from a state with the
line held. -/
theorem assertAndSend_cases (s : State B P) (opc : Word16) :
    (∃ c x t, s.assertAndSend opc = .ended t ∧ Supplies [.pinLow (.err c), .pinHigh x] s ∧
      Concludes s t (.err (.chipSelectFailure c)) [.pinLow (.err c), .pinHigh x] (levelAfter .deasserted x) .idle) ∨
    (∃ b x t, s.assertAndSend opc = .ended t ∧ Supplies [.pinLow .ok, commandEvent opc (.err b), .pinHigh x] s ∧
      Concludes s t (.err (.transferFailure b)) [.pinLow .ok, commandEvent opc (.err b), .pinHigh x]
        (levelAfter .deasserted x) .idle) ∨
    (∃ rx u, s.assertAndSend opc = .running u ∧ rx.length = 4 ∧ Supplies (sentCalls opc rx) s ∧
      Within s u (sentCalls opc rx) ∧ u.csLine = .asserted ∧ u.phase = s.phase) := by
  unfold State.assertAndSend
  cases hp : s.pinDraw with
  | err c =>
    refine .inl ⟨c, s.pinSetLow.pinDraw, _, rfl, ⟨hp, rfl, trivial⟩, ?_⟩
    simpa [hp] using (within_pinSetLow s).fail (.chipSelectFailure c)
  | ok =>
    have framed := (within_pinSetLow s).trans (within_runFrame s.pinSetLow opc)
    have sent := framed.trans (within_busTransfer (s.pinSetLow.runFrame opc) (commandBytes (frame opc)))
    simp only [hp, commandBytes_length, State.runFrame_busDraw] at sent
    refine .inr ?_
    cases hb : s.pinSetLow.busDraw 4 with
    | err b =>
      rw [hb] at sent
      refine .inl ⟨b, (s.pinSetLow.busTransfer (commandBytes (frame opc))).pinDraw,
        ((s.pinSetLow.runFrame opc).busTransfer (commandBytes (frame opc))).fail (.transferFailure b), ?_,
        ⟨hp, hb, rfl, trivial⟩, ?_⟩
      · simp [hb]
      · exact sent.fail (.transferFailure b)
    | ok rx =>
      rw [hb] at sent
      refine .inr ⟨rx, (s.pinSetLow.runFrame opc).busTransfer (commandBytes (frame opc)), ?_,
        State.busDraw_ok_length hb, ⟨hp, hb, trivial⟩, sent, ?_, ?_⟩
      · simp [hb]
      · simp [hp, levelAfter]
      · simp

/-! ### The draws decide the path of a command -/

/-- Where the environment draws a successful assert and command, ASSERT_AND_SEND goes on with the line held. -/
theorem assertAndSend_transmitted {s : State B P} {opc : Word16} {rx : List Byte}
    (h : Supplies [.pinLow .ok, .xfer (commandBytes (frame opc)) (.ok rx)] s) :
    ∃ u, s.assertAndSend opc = .running u ∧ Within s u (sentCalls opc rx) ∧
      u.csLine = .asserted ∧ u.phase = s.phase := by
  obtain ⟨h1, h2, -⟩ := h
  rcases assertAndSend_cases s opc with ⟨c, x, t, e, ⟨k1, k2⟩, hc⟩ |
    ⟨b, x, t, e, ⟨k1, k2, k3⟩, hc⟩ |
    ⟨rx', u, e, hl, ⟨k1, k2, -⟩, hw, hline, hph⟩
  · rw [h1] at k1
    cases k1
  · rw [h2] at k2
    cases k2
  · rw [h2] at k2
    cases k2
    exact ⟨u, e, hw, hline, hph⟩

/-- Where the assert fails, ASSERT_AND_SEND ends after one release. -/
theorem assertAndSend_assertFails {s : State B P} {opc : Word16} {c : P} {x : PinResult P}
    (h : Supplies [.pinLow (.err c), .pinHigh x] s) :
    ∃ t, s.assertAndSend opc = .ended t ∧
      Concludes s t (.err (.chipSelectFailure c)) [.pinLow (.err c), .pinHigh x] (levelAfter .deasserted x) .idle := by
  obtain ⟨h1, h2, -⟩ := h
  rcases assertAndSend_cases s opc with ⟨c, x, t, e, ⟨k1, k2, -⟩, hc⟩ |
    ⟨b, x, t, e, ⟨k1, k2, k3⟩, hc⟩ |
    ⟨rx', u, e, hl, ⟨k1, k2, -⟩, hw, hline, hph⟩
  · rw [h1] at k1
    cases k1
    rw [h2] at k2
    cases k2
    exact ⟨t, e, hc⟩
  · rw [h1] at k1
    cases k1
  · rw [h1] at k1
    cases k1

/-- Where the command transfer fails, ASSERT_AND_SEND ends after one release. -/
theorem assertAndSend_commandFails {s : State B P} {opc : Word16} {b : B} {x : PinResult P}
    (h : Supplies [.pinLow .ok, .xfer (commandBytes (frame opc)) (.err b), .pinHigh x] s) :
    ∃ t, s.assertAndSend opc = .ended t ∧
      Concludes s t (.err (.transferFailure b)) [.pinLow .ok, .xfer (commandBytes (frame opc)) (.err b), .pinHigh x] (levelAfter .deasserted x) .idle := by
  obtain ⟨h1, h2, h3, -⟩ := h
  rcases assertAndSend_cases s opc with ⟨c, x, t, e, ⟨k1, k2, -⟩, hc⟩ |
    ⟨b, x, t, e, ⟨k1, k2, k3, -⟩, hc⟩ |
    ⟨rx', u, e, hl, ⟨k1, k2, -⟩, hw, hline, hph⟩
  · rw [h1] at k1
    cases k1
  · rw [h2] at k2
    cases k2
    rw [h3] at k3
    cases k3
    exact ⟨t, e, hc⟩
  · rw [h2] at k2
    cases k2

/-- Everything the device loop can do for `n` more devices (R181 to R183): all `n` frames are valid and their triples
are appended to OUT in chain order; or after `k < n` valid frames a transfer fails; or after `k < n` valid frames a
frame fails its check. -/
theorem readDevices_cases (n : Nat) : ∀ s : State B P,
    (∃ (fs : List ResponseFrame) (u : State B P), s.readDevices n = .running u ∧ fs.length = n ∧ (∀ f ∈ fs, validFrame f = true) ∧
      Supplies (fs.map deviceEvent) s ∧ Within s u (fs.map deviceEvent) ∧
      u.out = s.out ++ fs.map decodePayload ∧ u.csLine = s.csLine ∧ u.phase = s.phase) ∨
    (∃ (fs : List ResponseFrame) (b : B) (x : PinResult P) (t : State B P), s.readDevices n = .ended t ∧ fs.length < n ∧ (∀ f ∈ fs, validFrame f = true) ∧
      Supplies (fs.map deviceEvent ++ [.xfer readTx (.err b), .pinHigh x]) s ∧
      Concludes s t (.err (.transferFailure b)) (fs.map deviceEvent ++ [.xfer readTx (.err b), .pinHigh x])
        (levelAfter .deasserted x) .idle) ∨
    (∃ (fs : List ResponseFrame) (bad : ResponseFrame) (x : PinResult P) (t : State B P), s.readDevices n = .ended t ∧ fs.length < n ∧ (∀ f ∈ fs, validFrame f = true) ∧
      validFrame bad = false ∧ Supplies (fs.map deviceEvent ++ [deviceEvent bad, .pinHigh x]) s ∧
      Concludes s t (.err .checksumMismatch) (fs.map deviceEvent ++ [deviceEvent bad, .pinHigh x])
        (levelAfter .deasserted x) .idle) := by
  induction n with
  | zero => exact fun s => .inl ⟨[], s, rfl, rfl, by simp, trivial, .refl s, by simp, rfl, rfl⟩
  | succ n ih =>
    intro s
    unfold State.readDevices
    have transfer := within_busTransfer s readTx
    simp only [readTx_length] at transfer
    cases hb : s.busDraw 8 with
    | err b =>
      rw [hb] at transfer
      exact .inr (.inl ⟨[], b, (s.busTransfer readTx).pinDraw, _, rfl, by simp, by simp, ⟨hb, rfl, trivial⟩,
        by simpa using transfer.fail (.transferFailure b)⟩)
    | ok rx =>
      obtain ⟨f, rfl⟩ : ∃ f : ResponseFrame, rx = f.bytes :=
        ⟨responseFrameOf rx, (bytes_responseFrameOf (State.busDraw_ok_length hb)).symm⟩
      rw [hb] at transfer
      have checked := (transfer.trans (within_setRsp _ f)).trans (within_runCalc _ (payload f))
      simp only [responseFrameOf_bytes, State.setRsp_rsp, validate_eq]
      cases hv : validFrame f with
      | false =>
        exact .inr (.inr ⟨[], f, (s.busTransfer readTx).pinDraw, _, rfl, by simp, by simp, hv, ⟨hb, rfl, trivial⟩,
          by simpa [deviceEvent] using checked.fail .checksumMismatch⟩)
      | true =>
        have stored := checked.trans (within_storeOut _ (decodePayload f))
        simp only [List.append_nil] at stored
        have first : DrawsAfter s _ [deviceEvent f] := stored.draws
        have head : Supplies [deviceEvent f] s := ⟨hb, trivial⟩
        have all : ∀ fs : List ResponseFrame, (∀ g ∈ fs, validFrame g = true) → ∀ g ∈ f :: fs, validFrame g = true :=
          fun fs h g hg => (List.mem_cons.mp hg).elim (fun e => e ▸ hv) (h g)
        simp only [↓reduceIte]
        rcases ih ((((s.busTransfer readTx).setRsp f).runCalc (payload f)).storeOut (decodePayload f)) with
          ⟨fs, u, he, hn, hok, hs, hw, ho, hl, hph⟩ | ⟨fs, b, x, t, he, hn, hok, hs, hc⟩ |
          ⟨fs, bad, x, t, he, hn, hok, hbad, hs, hc⟩
        · refine .inl ⟨f :: fs, u, he, by simp [hn], all fs hok, (Supplies.append first).mpr ⟨head, hs⟩,
            stored.trans hw, by simp [ho], by simpa using hl, by simpa using hph⟩
        · exact .inr (.inl ⟨f :: fs, b, x, t, he, by simpa using hn, all fs hok,
            (Supplies.append first).mpr ⟨head, hs⟩, stored.concludes hc⟩)
        · exact .inr (.inr ⟨f :: fs, bad, x, t, he, by simpa using hn, all fs hok, hbad,
            (Supplies.append first).mpr ⟨head, hs⟩, stored.concludes hc⟩)

end Sys2Proof.Machine
end

