-- ==== Sys2Proof/Tests/Slice0.lean ====
section
/-! SUPPORT. The model's own tests: the well-formedness smoke tests, words written out from 30_encoding.md R101 and
R102, vectors of 95_test_vectors.md (named in each docstring), and for every statement with hypotheses a witness: a
concrete state and operands that meet them. -/

namespace Sys2Proof.Tests

open Sys2Proof Sys2Proof.Machine

/-! ### Helpers -/

/-- A block of `l` devices in a given strategy, line level and phase, with scripted draws. -/
def block (l : Nat) (g : Strategy) (line : Line) (phase : Phase) (pins : List (PinResult PinCause))
    (buses : List (BusResult BusCause)) : State :=
  { State.ofParams { defaultParams with chainLength := l } with
    strategy := g, csLine := line, phase := phase, pinDraws := pins, busDraws := buses }

/-- Whether one step on a request makes `calls`, returns `r` and leaves the STATUS word `st`. -/
def answers (s : State) (q : HostRequest) (calls : List (Event BusCause PinCause)) (r : Response BusCause PinCause)
    (st : BitVec 32) : Bool :=
  match step (s.placeFirst q) with
  | .next t => decide (t.trace = s.trace ++ calls ∧ t.responses = s.responses ++ [r] ∧ status t = st)
  | _ => false

/-- Whether one step on a request refuses it for `why`, with no call and no response, and leaves the STATUS word
`st`. -/
def refuses (s : State) (q : HostRequest) (why : RefuseReason) (st : BitVec 32) : Bool :=
  match step (s.placeFirst q) with
  | .next t =>
    decide (t.trace = s.trace ∧ t.responses = s.responses ∧ t.refusals = s.refusals ++ [why] ∧ status t = st)
  | _ => false

/-- Device frames A and X of 95_test_vectors.md, section 6. -/
def frameA : ResponseFrame := ⟨0x01#8, 0x00#8, 0x02#8, 0x00#8, 0x03#8, 0x00#8, 0x96#8, 0x4C#8⟩
def frameB : ResponseFrame := ⟨0x04#8, 0x00#8, 0x05#8, 0x00#8, 0x06#8, 0x00#8, 0xDE#8, 0x8E#8⟩
def frameX : ResponseFrame := ⟨0x05#8, 0x00#8, 0x05#8, 0x00#8, 0x06#8, 0x00#8, 0xDE#8, 0x8E#8⟩

def zero4 : List Byte := [0, 0, 0, 0]
def ones8 : List Byte := List.replicate 8 0xFF#8
def b1 : BusCause := ⟨1⟩
def p1 : PinCause := ⟨1⟩
def p2 : PinCause := ⟨2⟩

/-! ### WellFormed: an ill-formed term for each check -/

theorem test_wellformed_calc_length : (Instr.calcPec (List.replicate 65536 0#8)).wellFormed = false := by
  rw [Instr.wellFormed, List.length_replicate]
  decide

theorem test_wellformed_startconv_cell : (Instr.startconv 0#2 false 7#3).wellFormed = false := by decide

theorem test_wellformed_read_register : (Instr.read 15#5).wellFormed = false := by decide

/-! ### Decoding (30_encoding.md R101, R102; 95_test_vectors.md, section 7) -/

/-- V-L2-DEC-2 -/
theorem test_decode_calc :
    decode ⟨0b00000001_00000000_0000000000000010#32, [0x00#8, 0x04#8]⟩ = .ok (.calcPec [0x00#8, 0x04#8]) := by decide

/-- V-L2-DEC-5 -/
theorem test_decode_frame : decode ⟨0b00000010_00000000_0000000000000100#32, []⟩ = .ok (.frame 0x0004#16) := by decide

/-- V-L2-DEC-8 -/
theorem test_decode_validate :
    decode ⟨0b00000011_00000000_0000000000000000#32, [0x34#8, 0x12#8, 0xCD#8, 0xAB#8, 0x00#8, 0x00#8, 0x92#8, 0x46#8]⟩ =
      .ok (.validate ⟨0x34#8, 0x12#8, 0xCD#8, 0xAB#8, 0x00#8, 0x00#8, 0x92#8, 0x46#8⟩) := by decide

/-- V-L2-DEC-11: MD = 3, DCP = 1, CH = 6 -/
theorem test_decode_startconv :
    decode ⟨0b00010000_00000000_0000000000_11_1_110#32, []⟩ = .ok (.startconv 3#2 true 6#3) := by decide

/-- STARTCONV with one field set: MD at ARG[5:4] (30_encoding.md R102) -/
theorem test_decode_startconv_mode :
    decode ⟨0b00010000_00000000_0000000000_10_0_001#32, []⟩ = .ok (.startconv 2#2 false 1#3) := by decide

/-- V-L2-DEC-15 -/
theorem test_decode_read : decode ⟨0b00010001_00000000_00000000000_01110#32, []⟩ = .ok (.read 14#5) := by decide

/-- V-L2-DEC-18 -/
theorem test_decode_poll : decode ⟨0b00010010_00000000_0000000000000000#32, []⟩ = .ok .poll := by decide

/-- V-L2-DEC-20, V-L2-DEC-21 -/
theorem test_decode_switch :
    decode ⟨0b00100000_00000000_000000000000000_1#32, []⟩ = .ok (.switch .lineHold) ∧
      decode ⟨0b00100000_00000000_000000000000000_0#32, []⟩ = .ok (.switch .releaseImmediately) := by decide

/-- V-L2-DEC-22 to 25 -/
theorem test_decode_reserved_selectors :
    decode ⟨0x00000000#32, []⟩ = .error (.reservedSelector 0x00#8) ∧
      decode ⟨0x04000000#32, []⟩ = .error (.reservedSelector 0x04#8) ∧
      decode ⟨0x13000000#32, []⟩ = .error (.reservedSelector 0x13#8) ∧
      decode ⟨0xFF000000#32, []⟩ = .error (.reservedSelector 0xFF#8) := by decide

/-- V-L2-DEC-3, 7, 9, 13, 19, V-L2-READ-14, V-L2-SW-6 -/
theorem test_decode_reserved_bits :
    decode ⟨0x01010000#32, []⟩ = .error .reservedBits ∧ decode ⟨0x02800000#32, []⟩ = .error .reservedBits ∧
      decode ⟨0x03000001#32, ones8⟩ = .error .reservedBits ∧ decode ⟨0x10000040#32, []⟩ = .error .reservedBits ∧
      decode ⟨0x11000022#32, []⟩ = .error .reservedBits ∧ decode ⟨0x12000100#32, []⟩ = .error .reservedBits ∧
      decode ⟨0x20000003#32, []⟩ = .error .reservedBits := by decide

/-- V-L2-DEC-4, and VALIDATE with 7 of its 8 bytes (30_encoding.md R105 g) -/
theorem test_decode_short_operand :
    decode ⟨0x01000003#32, [0x00#8, 0x04#8]⟩ = .error .shortOperand ∧
      decode ⟨0x03000000#32, List.replicate 7 0#8⟩ = .error .shortOperand := by decide

/-- The host's table words: bit 0 of the word is bit 0, the bytes of the data channel count on from bit 32. -/
theorem test_table_words :
    decodeTableWord 32 0x1000003E = some (.startconv 3#2 true 6#3) ∧
      decodeTableWord 32 0x01000002 = some (.calcPec [0, 0]) ∧
      decodeTableWord 96 0x46_92_00_00_AB_CD_12_34_03000000 =
        some (.validate ⟨0x34#8, 0x12#8, 0xCD#8, 0xAB#8, 0x00#8, 0x00#8, 0x92#8, 0x46#8⟩) := by decide

/-! ### The engines (95_test_vectors.md, sections 2 to 5) -/

/-- V-L2-CALC-1, 3, 6, 12, and V-L2-CALC-15 in the bit-serial form -/
theorem test_calc : calcPec [] = [0x00#8, 0x20#8] ∧ calcPec [0xFF#8] = [0x21#8, 0x2A#8] ∧
    calcPec [0x80#8] = [0x64#8, 0x26#8] ∧ calcPec [1, 2, 3, 4, 5, 6] = [0x22#8, 0xEE#8] ∧
    calcBits [0, 1, 2, 3, 4, 5, 6, 7, 8, 9, 10, 11, 12, 13, 14, 15] = [0xDD#8, 0xEC#8] := by decide +kernel

/-- V-L1-1, V-L2-FRAME-8 -/
theorem test_frame : commandBytes (frame 0x0004#16) = [0x00#8, 0x04#8, 0x07#8, 0xC2#8] ∧
    commandBytes (frame 0x1234#16) = [0x12#8, 0x34#8, 0x1D#8, 0xD4#8] := by decide +kernel

/-- V-L2-VAL-4, 9, 13, 14, 15 -/
theorem test_validate :
    validate ⟨0x34#8, 0x12#8, 0xCD#8, 0xAB#8, 0, 0, 0x92#8, 0x46#8⟩ = some ⟨0x1234#16, 0xABCD#16, 0⟩ ∧
      validate (responseFrameOf ones8) = none ∧ validate { frameA with r6 := 0x97#8 } = none ∧
      validate { frameA with r7 := 0x4D#8 } = none ∧ validate { frameA with r0 := 0, r1 := 1 } = none := by
  decide +kernel

/-! ### Single steps (95_test_vectors.md, sections 6, 8 and 9) -/

/-- P6, step 1 -/
theorem test_step_calc : answers State.reset ⟨0x01000002#32, [0x00#8, 0x04#8]⟩ [] (.ok (.checksum 0x07#8 0xC2#8)) 0x00#32 := by
  decide +kernel

/-- P6, step 2 -/
theorem test_step_frame :
    answers State.reset ⟨0x02000004#32, []⟩ [] (.ok (.frame ⟨0x00#8, 0x04#8, 0x07#8, 0xC2#8⟩)) 0x00#32 := by
  decide +kernel

/-- P6, step 4 -/
theorem test_step_validate :
    answers State.reset ⟨0x03000000#32, [0x35#8, 0x12#8, 0xCD#8, 0xAB#8, 0, 0, 0x92#8, 0x46#8]⟩ []
      (.err .checksumMismatch) 0x00#32 := by decide +kernel

/-- V-L2-START-6: the concluding release fails -/
theorem test_step_startconv_release :
    answers (block 1 .releaseImmediately .deasserted .idle [.ok, .err p2] [.ok zero4]) ⟨0x10000020#32, []⟩
      [.pinLow .ok, .xfer [0x03#8, 0x60#8, 0xF4#8, 0x6C#8] (.ok zero4), .pinHigh (.err p2)]
      (.err (.chipSelectFailure p2)) 0x04#32 := by decide +kernel

/-- P4, step 3, from an unknown line (V-L2-START-11): LineHold, every field of the opcode set -/
theorem test_step_startconv_hold :
    answers (block 1 .lineHold .unknown .idle [.ok] [.ok zero4]) ⟨0x10000019#32, []⟩
      [.pinLow .ok, .xfer [0x02#8, 0xF1#8, 0xE8#8, 0x1A#8] (.ok zero4)] (.ok .unit) 0x0B#32 := by decide +kernel

/-- V-L2-READ-12: a READ during a poll sequence ends it -/
theorem test_step_read_values :
    answers (block 1 .lineHold .asserted .polling [.ok, .ok] [.ok zero4, .ok frameA.bytes]) ⟨0x11000002#32, []⟩
      [.pinLow .ok, .xfer [0x00#8, 0x04#8, 0x07#8, 0xC2#8] (.ok zero4), .xfer ones8 (.ok frameA.bytes), .pinHigh .ok]
      (.ok (.triples [⟨1, 2, 3⟩])) 0x01#32 := by decide +kernel

/-- V-L2-READ-10: a mismatch and a failed release; the second of two devices is not read -/
theorem test_step_read_mismatch :
    answers (block 2 .releaseImmediately .deasserted .idle [.ok, .err p2] [.ok zero4, .ok frameX.bytes])
      ⟨0x11000002#32, []⟩
      [.pinLow .ok, .xfer [0x00#8, 0x04#8, 0x07#8, 0xC2#8] (.ok zero4), .xfer ones8 (.ok frameX.bytes),
        .pinHigh (.err p2)] (.err .checksumMismatch) 0x04#32 := by decide +kernel

/-- V-L2-POLL-2: a sample of 0xFE -/
theorem test_step_poll_busy :
    answers (block 1 .lineHold .asserted .polling [] [.ok [0xFE#8]]) ⟨0x12000000#32, []⟩
      [.xfer [0xFF#8] (.ok [0xFE#8])] (.ok (.done false)) 0x0B#32 := by decide +kernel

/-- V-L2-POLL-7: the sample and the release fail -/
theorem test_step_poll_fails :
    answers (block 1 .lineHold .asserted .polling [.err p2] [.err b1]) ⟨0x12000000#32, []⟩
      [.xfer [0xFF#8] (.err b1), .pinHigh (.err p2)] (.err (.transferFailure b1)) 0x05#32 := by decide +kernel

/-- V-L2-SW-2: only the strategy changes -/
theorem test_step_switch :
    answers (block 1 .releaseImmediately .unknown .idle [] []) ⟨0x20000001#32, []⟩ [] (.ok .unit) 0x05#32 := by
  decide +kernel

/-- V-L2-SW-5, V-L2-START-12, V-L2-READ-13, V-L2-POLL-10, V-L2-POLL-11 -/
theorem test_step_refusals :
    refuses (block 1 .lineHold .asserted .polling [] []) ⟨0x20000000#32, []⟩ .strategySwitchNotAdmitted 0x1B#32 ∧
      refuses State.reset ⟨0x10000007#32, []⟩ .unsupportedCellSelection 0x10#32 ∧
      refuses State.reset ⟨0x1100000F#32, []⟩ .unsupportedRegisterGroup 0x10#32 ∧
      refuses State.reset ⟨0x12000000#32, []⟩ .pollWithoutLineHold 0x10#32 ∧
      refuses (block 1 .lineHold .asserted .polling [] []) ⟨0x12000001#32, []⟩ .reservedEncoding 0x1B#32 := by
  decide +kernel

/-- V-L2-POLL-7 again, over other types of causes (00_scope.md R20): strings and booleans -/
theorem test_poll_other_causes :
    (match execPoll { (State.ofParams defaultParams : State String Bool) with
        strategy := .lineHold, pinDraws := [.err true], busDraws := [.err "no acknowledge"] } with
      | .next t => decide (t.responses = [.err (.transferFailure "no acknowledge")] ∧
          t.trace = [.xfer [0xFF#8] (.err "no acknowledge"), .pinHigh (.err true)])
      | _ => false) = true := by decide +kernel

/-- The response bytes of P3's last response and of P6's steps 1 and 4 (30_encoding.md R103) -/
theorem test_response_bytes :
    responseBytes (.ok (.triples [⟨1, 2, 3⟩, ⟨4, 5, 6⟩]) : Response BusCause PinCause) =
      [0x00#8, 1, 0, 2, 0, 3, 0, 4, 0, 5, 0, 6, 0] ∧
    responseBytes (.ok (.checksum 0x07#8 0xC2#8) : Response BusCause PinCause) = [0x00#8, 0x07#8, 0xC2#8] ∧
    responseBytes (.err .checksumMismatch : Response BusCause PinCause) = [0x03#8] := by decide +kernel

/-! ### Witnesses: every statement's hypotheses are met by a concrete state and operands -/

/-- Parameters whose base overlaps the mode field. -/
def overlapping : Params := { defaultParams with adcvBase := 0x0080#16 }

/-- A block that polls under LineHold, `n` calls of which are scripted. -/
def polling (pins : List (PinResult PinCause)) (buses : List (BusResult BusCause)) : State :=
  block 2 .lineHold .asserted .polling pins buses

/-- A block at rest under ReleaseImmediately. -/
def resting (pins : List (PinResult PinCause)) (buses : List (BusResult BusCause)) : State :=
  block 2 .releaseImmediately .deasserted .idle pins buses

/-- The command of `startconv 2 false 0` (V-L2-START-1). -/
def startBytes : List Byte := commandBytes (frame (composeAdcv defaultParams 2#2 0#3 false))

/-- ConstructionRefusesOrLeavesInitialState, its three clauses; the third at the smallest L -/
theorem witness_construction :
    (∃ p : Params, p.chainLength = 0) ∧ (1 ≤ overlapping.chainLength ∧ templateDisjoint overlapping = false) ∧
      (1 ≤ defaultParams.chainLength ∧ templateDisjoint defaultParams = true) :=
  ⟨⟨{ defaultParams with chainLength := 0 }, rfl⟩, by decide +kernel⟩

/-- ConstructionMeetsInvariant -/
theorem witness_constructed : ∃ s : State, construct defaultParams [.ok] [] = .ok s :=
  ⟨{ State.reset with pinDraws := [.ok] }, by decide +kernel⟩

/-- A state in the middle of a poll sequence, with a request pending, that meets the invariant. -/
def midPoll : State :=
  { polling [.ok] [.ok [0xFF#8]] with trace := [.pinLow .ok], requests := [⟨0x12000000#32, []⟩] }

/-- The invariant holds in the middle of a poll sequence. -/
theorem midPoll_inv : midPoll.Inv where
  params := by unfold paramsWellFormed; decide +kernel
  pollingHoldsLine := fun _ => ⟨rfl, rfl⟩
  assertedExplained := fun _ => .inl rfl
  lineMatchesTrace := rfl
  traceLawful := by
    intro e he
    simp only [midPoll, List.mem_singleton] at he
    subst he
    trivial
  refusedMark := by decide
  answered := rfl
  outWidth := rfl
  idxWidth := by decide

/-- StepKeepsInvariant -/
theorem witness_step_keeps_invariant : ∃ t, midPoll.Inv ∧ step midPoll = .next t := ⟨_, midPoll_inv, rfl⟩

/-- StepRunsDecodedRequest, its three clauses -/
theorem witness_step_decodes :
    (midPoll.requests = ⟨0x12000000#32, []⟩ :: [] ∧ decode ⟨0x12000000#32, []⟩ = .ok .poll) ∧
      ((State.reset.placeFirst ⟨0x13000000#32, []⟩).requests = [⟨0x13000000#32, []⟩] ∧
        decode ⟨0x13000000#32, []⟩ = .error (.reservedSelector 0x13#8)) ∧
      State.reset.requests = [] := by decide

/-- FetchedTableWordRuns -/
theorem witness_table_word : decodeTableWord 32 0x11000002 = some (.read 2#5) := by decide

/-- DecodeOfEncode, at the largest operand of each checked field -/
theorem witness_wellformed : (Instr.calcPec (List.replicate 65535 0#8)).wellFormed = true ∧
    (Instr.startconv 3#2 true 6#3).wellFormed = true ∧ (Instr.read 14#5).wellFormed = true := by
  rw [Instr.wellFormed, List.length_replicate]
  decide

/-- DecodedRequestReencodes and DecodeSucceedsExactlyOnTableRows, with a byte beyond the operand -/
theorem witness_decodes : decode ⟨0x01000001#32, [0x05#8, 0x06#8]⟩ = .ok (.calcPec [0x05#8]) ∧
    (opcodeRow (.calcPec [])).admits 0x01000001#32 ∧ declaredBytes 0x01000001#32 ≤ [0x05#8, 0x06#8].length := by
  unfold OpcodeRow.admits
  decide

/-- TableBit15Immaterial: the table with bit 15 of every entry set -/
theorem witness_bit15 : ∀ i : Byte, (pecTable.map (· ||| 0x8000#16)).getD i.toNat 0 &&& 0x7FFF#16 =
    pecTable.getD i.toNat 0 &&& 0x7FFF#16 := by decide +kernel

/-- CalcIsAffine (V-L2-CALC-17) and SingleBitErrorChangesChecksum, at the last bit of the last byte -/
theorem witness_calc_operands :
    [0x12#8, 0x34#8, 0x56#8, 0x78#8].length = [0x9A#8, 0xBC#8, 0xDE#8, 0xF0#8].length ∧
      5 < (payload frameA).length ∧ 7 < 8 := by decide

/-- ComposedFieldsComeBack: a template other than the default -/
theorem witness_template :
    templateDisjoint { defaultParams with adcvBase := 0x0060#16, mdShift := 14, dcpBit := 3 } = true := by decide +kernel

/-- CorruptedFramesAreRejected and FramesRoundTrip -/
theorem witness_frames : validFrame frameA = true ∧ ({ frameA with r7 := 0x4D#8 } : ResponseFrame).r7.getLsbD 0 = true ∧
    validate frameA = some ⟨1, 2, 3⟩ := by decide +kernel

/-- StartUnderReleaseImmediatelyReleases, with either outcome of the release -/
theorem witness_start_releases (x : PinResult PinCause) :
    (resting [.ok, x] [.ok zero4]).strategy = .releaseImmediately ∧
      supportsCh (resting [.ok, x] [.ok zero4]).params 0#3 = true ∧
      Supplies [.pinLow .ok, .xfer startBytes (.ok zero4), .pinHigh x] (resting [.ok, x] [.ok zero4]) :=
  ⟨rfl, rfl, rfl, rfl, rfl, trivial⟩

/-- StartUnderLineHoldKeepsLine -/
theorem witness_start_holds :
    (polling [.ok] [.ok zero4]).strategy = .lineHold ∧ supportsCh (polling [.ok] [.ok zero4]).params 0#3 = true ∧
      Supplies [.pinLow .ok, .xfer startBytes (.ok zero4)] (polling [.ok] [.ok zero4]) :=
  ⟨rfl, rfl, rfl, rfl, trivial⟩

/-- StartFailureReleases, its two clauses -/
theorem witness_start_fails :
    supportsCh (resting [] []).params 0#3 = true ∧
      Supplies [.pinLow (.err p1), .pinHigh (.err p2)] (resting [.err p1, .err p2] []) ∧
      Supplies [.pinLow .ok, .xfer startBytes (.err b1), .pinHigh .ok] (resting [.ok, .ok] [.err b1]) :=
  ⟨rfl, ⟨rfl, rfl, trivial⟩, rfl, rfl, rfl, trivial⟩

/-- StartRefusesUnsupportedCells: a variant of two cells -/
theorem witness_unsupported_cell : supportsCh { defaultParams with supportedCh := [0, 6] } 1#3 = false := by decide

/-- The command of `read 2` (V-L2-READ-1). -/
def readBytes : List Byte := commandBytes (frame (opcodeOf defaultOpcodes .cva))

/-- ReadReturnsTriplesInChainOrder, on two devices, with either outcome of the release -/
theorem witness_read_returns (x : PinResult PinCause) :
    admittedGroup (resting [] []).params 2#5 = some .cva ∧
      [frameA, frameB].length = (resting [] []).params.chainLength ∧ (∀ f ∈ [frameA, frameB], validFrame f = true) ∧
      Supplies ([.pinLow .ok, .xfer readBytes (.ok zero4)] ++
        [frameA, frameB].map (fun f => .xfer (List.replicate 8 0xFF#8) (.ok f.bytes)) ++ [.pinHigh x])
        (resting [.ok, x] [.ok zero4, .ok frameA.bytes, .ok frameB.bytes]) :=
  ⟨rfl, rfl, by decide +kernel, rfl, rfl, rfl, rfl, rfl, trivial⟩

/-- ReadAbortsAtFirstFailingDevice, its two clauses, at the last device -/
theorem witness_read_aborts :
    admittedGroup (resting [] []).params 2#5 = some .cva ∧ [frameA].length < (resting [] []).params.chainLength ∧
      (∀ f ∈ [frameA], validFrame f = true) ∧ validFrame frameX = false ∧
      Supplies ([.pinLow .ok, .xfer readBytes (.ok zero4)] ++ [frameA].map deviceEvent ++ [deviceEvent frameX, .pinHigh .ok])
        (resting [.ok, .ok] [.ok zero4, .ok frameA.bytes, .ok frameX.bytes]) ∧
      Supplies ([.pinLow .ok, .xfer readBytes (.ok zero4)] ++ [frameA].map deviceEvent ++ [.xfer readTx (.err b1), .pinHigh .ok])
        (resting [.ok, .ok] [.ok zero4, .ok frameA.bytes, .err b1]) :=
  ⟨rfl, by decide, by decide +kernel, by decide +kernel, ⟨rfl, rfl, rfl, rfl, rfl, trivial⟩, rfl, rfl, rfl, rfl, rfl, trivial⟩

/-- ReadCommandFailureReleases, its two clauses -/
theorem witness_read_fails :
    admittedGroup (resting [] []).params 2#5 = some .cva ∧
      Supplies [.pinLow (.err p1), .pinHigh .ok] (resting [.err p1, .ok] []) ∧
      Supplies [.pinLow .ok, .xfer readBytes (.err b1), .pinHigh (.err p2)] (resting [.ok, .err p2] [.err b1]) :=
  ⟨rfl, ⟨rfl, rfl, trivial⟩, rfl, rfl, rfl, trivial⟩

/-- ReadRefusesUnsupportedGroups, its two cases -/
theorem witness_unsupported_group : 14 < (15#5).toNat ∧
    RegisterGroup.cvf.number = 7#5 ∧ RegisterGroup.cvf ∉ [RegisterGroup.cfga, RegisterGroup.cva] := by decide

/-- PollReportsTrueOnAllOnes and PollFailureEndsSequence, with either outcome of the release -/
theorem witness_poll_ends (x : PinResult PinCause) :
    (polling [x] [.ok [0xFF#8]]).strategy = .lineHold ∧
      Supplies [.xfer [0xFF#8] (.ok [0xFF#8]), .pinHigh x] (polling [x] [.ok [0xFF#8]]) ∧
      Supplies [.xfer [0xFF#8] (.err b1), .pinHigh x] (polling [x] [.err b1]) :=
  ⟨rfl, ⟨rfl, rfl, trivial⟩, rfl, rfl, trivial⟩

/-- PollReportsFalseOtherwise, one bit away from all-ones -/
theorem witness_poll_busy : (polling [] [.ok [0x7F#8]]).strategy = .lineHold ∧ 0x7F#8 ≠ 0xFF#8 ∧
    Supplies [.xfer [0xFF#8] (.ok [0x7F#8])] (polling [] [.ok [0x7F#8]]) := ⟨rfl, by decide, rfl, trivial⟩

/-- PollRefusedUnderReleaseImmediately -/
theorem witness_poll_refused : State.reset.strategy = .releaseImmediately := rfl

/-- TransfersFollowPathTable, its two cases -/
theorem witness_paths : admittedOpcode defaultParams (.startconv 2#2 false 0#3) = some 0x0360#16 ∧
    admittedOpcode defaultParams (.read 2#5) = some 0x0004#16 ∧ (polling [] []).strategy = .lineHold := by decide +kernel

/-- ChipSelectGuarantee: a READ that ends in an error, a poll that returns false, and a START that returns Ok -/
theorem witness_guarantee :
    (∃ t, exec (.read 2#5) (resting [.err p1, .ok] []) = .next t ∧
      t.responses = (resting [.err p1, .ok] []).responses ++ [.err (.chipSelectFailure p1)]) ∧
    (∃ t, exec .poll (polling [] [.ok [0x00#8]]) = .next t ∧
      t.responses = (polling [] [.ok [0x00#8]]).responses ++ [.ok (.done false)]) ∧
    (∃ t, exec (.startconv 2#2 false 0#3) (polling [.ok] [.ok zero4]) = .next t ∧
      t.responses = (polling [.ok] [.ok zero4]).responses ++ [.ok .unit]) :=
  ⟨⟨_, rfl, rfl⟩, ⟨_, rfl, rfl⟩, _, rfl, rfl⟩

/-- AtMostOneReleasePerRequest, LineAndPhaseDecideNothing, TransientsDecideNothing, HistoriesOnlyGrow -/
theorem witness_next :
    (∃ t, exec (.read 2#5) (resting [.ok, .ok] [.ok zero4, .ok frameA.bytes, .ok frameB.bytes]) = .next t) ∧
      ∃ t, step midPoll = .next t := ⟨⟨_, rfl⟩, _, rfl⟩

/-- CommandReplyIsDiscarded -/
theorem witness_reply : Instr.startconv 2#2 false 0#3 ≠ .poll ∧
    ∃ t, exec (.startconv 2#2 false 0#3) { resting [.ok, .ok] [] with busDraws := .ok zero4 :: [] } = .next t :=
  ⟨by decide, _, rfl⟩

/-- SwitchWritesOnlyStrategy: both directions -/
theorem witness_switch : ((resting [] []).strategy = .releaseImmediately ∧ Strategy.lineHold = .lineHold) ∧
    ¬ ((polling [] []).strategy = .releaseImmediately ∧ Strategy.lineHold = .lineHold) := by decide

/-- StrategyIsOneWay, its two clauses -/
theorem witness_one_way :
    (∃ t, exec (.switch .lineHold) (resting [] []) = .next t ∧ t.strategy ≠ (resting [] []).strategy) ∧
      ∃ t, midPoll.strategy = .lineHold ∧ step midPoll = .next t :=
  ⟨⟨_, rfl, by decide⟩, _, rfl, rfl⟩

/-- PhaseFollowsTransitionTable, its four clauses -/
theorem witness_phase :
    (supportsCh (polling [] []).params 6#3 = true ∧ ∃ t, exec (.startconv 0#2 true 6#3) (polling [] []) = .next t) ∧
      (admittedGroup (resting [] []).params 14#5 = some .pwm ∧ ∃ t, exec (.read 14#5) (resting [] []) = .next t) ∧
      ((polling [] []).strategy = .lineHold ∧ ∃ t, exec .poll (polling [] []) = .next t) ∧
      ((∀ md dcp ch, Instr.frame 0#16 ≠ .startconv md dcp ch) ∧ (∀ reg, Instr.frame 0#16 ≠ .read reg) ∧
        Instr.frame 0#16 ≠ .poll ∧ ∃ t, exec (.frame 0#16) (polling [] []) = .next t) :=
  ⟨⟨rfl, _, rfl⟩, ⟨rfl, _, rfl⟩, ⟨rfl, _, rfl⟩, fun _ _ _ => Instr.noConfusion, fun _ => Instr.noConfusion, by decide, _, rfl⟩

/-- OneAnswerPerRequest and RefusalChangesNothingElse: a poll that is refused -/
theorem witness_refused : (State.reset.placeFirst ⟨0x12000000#32, []⟩).requests = ⟨0x12000000#32, []⟩ :: [] ∧
    ∃ t, step (State.reset.placeFirst ⟨0x12000000#32, []⟩) = .next t ∧
      t.responses = (State.reset.placeFirst ⟨0x12000000#32, []⟩).responses := ⟨rfl, _, rfl, rfl⟩

/-- WaitConvPollsUntilAllOnes, its three clauses: one busy sample of two and then 0xFF, with either outcome of the
release; one and then a failed transfer; two of two -/
theorem witness_waitconv (x : PinResult PinCause) :
    (polling [x] [.ok [0xFE#8], .ok [0xFF#8]]).strategy = .lineHold ∧ [0xFE#8].length < 2 ∧
      (∀ b ∈ [0x00#8, 0xFE#8], b ≠ 0xFF#8) ∧
      Supplies ([0xFE#8].map (fun b => .xfer [0xFF#8] (.ok [b])) ++ [.xfer [0xFF#8] (.ok [0xFF#8]), .pinHigh x])
        (polling [x] [.ok [0xFE#8], .ok [0xFF#8]]) ∧
      Supplies ([0xFE#8].map (fun b => .xfer [0xFF#8] (.ok [b])) ++ [.xfer [0xFF#8] (.err b1), .pinHigh x])
        (polling [x] [.ok [0xFE#8], .err b1]) ∧
      Supplies ([0x00#8, 0xFE#8].map (fun b => .xfer [0xFF#8] (.ok [b]))) (polling [] [.ok [0#8], .ok [0xFE#8]]) :=
  ⟨rfl, by decide, by decide, ⟨rfl, rfl, rfl, trivial⟩, ⟨rfl, rfl, rfl, trivial⟩, rfl, rfl, trivial⟩

/-- ConvertStartsThenPolls, the clauses whose START returns Ok -/
theorem witness_convert :
    (polling [.ok, .ok] [.ok zero4, .ok [0#8], .ok [0xFF#8]]).strategy = .lineHold ∧
      supportsCh (polling [] []).params 0#3 = true ∧ [0x00#8].length < 2 ∧ (∀ b ∈ [0x00#8], b ≠ 0xFF#8) ∧
      Supplies ([.pinLow .ok, .xfer startBytes (.ok zero4)] ++
        ([0x00#8].map (fun b => .xfer [0xFF#8] (.ok [b])) ++ [.xfer [0xFF#8] (.ok [0xFF#8]), .pinHigh .ok]))
        (polling [.ok, .ok] [.ok zero4, .ok [0#8], .ok [0xFF#8]]) :=
  ⟨rfl, rfl, by decide, by decide, rfl, rfl, rfl, rfl, rfl, trivial⟩

/-- ConvertStartsThenPolls, the clauses whose START fails (assert, command, release) or is refused -/
theorem witness_convert_fails :
    supportsCh (resting [] []).params 0#3 = true ∧ (resting [] []).strategy = .releaseImmediately ∧
      Supplies [.pinLow (.err p1), .pinHigh .ok] (resting [.err p1, .ok] []) ∧
      Supplies [.pinLow .ok, .xfer startBytes (.err b1), .pinHigh .ok] (polling [.ok, .ok] [.err b1]) ∧
      Supplies [.pinLow .ok, .xfer startBytes (.ok zero4), .pinHigh (.err p2)] (resting [.ok, .err p2] [.ok zero4]) ∧
      supportsCh (resting [] []).params 7#3 = false :=
  ⟨rfl, rfl, ⟨rfl, rfl, trivial⟩, ⟨rfl, rfl, rfl, trivial⟩, ⟨rfl, rfl, rfl, trivial⟩, rfl⟩

/-- CausesAreCarriedVerbatim: a READ that uses every draw it is given -/
theorem witness_causes :
    2 ≤ (resting [.ok, .err p2] [.ok zero4, .ok frameA.bytes, .err b1]).pinDraws.length ∧
      (resting [.ok, .err p2] [.ok zero4, .ok frameA.bytes, .err b1]).params.chainLength + 1 ≤
        (resting [.ok, .err p2] [.ok zero4, .ok frameA.bytes, .err b1]).busDraws.length ∧
      ∃ t, exec (.read 2#5) (resting [.ok, .err p2] [.ok zero4, .ok frameA.bytes, .err b1]) = .next t :=
  ⟨by decide, by decide, _, rfl⟩

end Sys2Proof.Tests
end

section
/-! Scope of the model (00_scope.md). R14 with 41_framing.md R153, R154: the fields of the composed start-conversion
opcode stand apart and come back. R20: every operation commutes with a renaming of the causes. -/

namespace Sys2Proof.Machine

open Sys2Proof

/-! ### The fields of the start-conversion opcode (41_framing.md R153) -/

section OpcodeFields

variable (p : Params) (md : BitVec 2) (dcp : Bool) (ch : BitVec 3)

theorem mdField_extract : (mdField p md).extractLsb' p.mdShift.val 2 = md := by
  apply BitVec.eq_of_getLsbD_eq
  intro j hj
  have hs := p.mdShift.isLt
  simp [mdField, hj, show p.mdShift.val + j < 16 by omega]

theorem dcpField_getLsbD : (dcpField p dcp).getLsbD p.dcpBit.val = dcp := by
  cases dcp <;> simp [dcpField]

theorem chField_extract : (ch.setWidth 16).extractLsb' 0 3 = ch := by
  revert ch
  decide

/-- The mode field lies within its mask. -/
theorem mdField_and_mask : mdField p md &&& mdField p 3#2 = mdField p md := by
  have within : md.setWidth 16 &&& (3#2).setWidth 16 = md.setWidth 16 := by revert md; decide
  simp only [mdField, ← BitVec.shiftLeft_and_distrib, within]

/-- The discharge permit lies within its mask. -/
theorem dcpField_and_mask : dcpField p dcp &&& dcpField p true = dcpField p dcp := by
  cases dcp <;> simp [dcpField]

/-- The channel field lies within its mask. -/
theorem chField_and_mask : ch.setWidth 16 &&& (7#3).setWidth 16 = ch.setWidth 16 := by
  revert ch
  decide

/-- Values within disjoint masks are disjoint. -/
theorem and_eq_zero_of_masks {w : Nat} {x y m n : BitVec w} (hx : x &&& m = x) (hy : y &&& n = y)
    (h : m &&& n = 0#w) : x &&& y = 0#w :=
  calc x &&& y = (x &&& m) &&& (y &&& n) := by rw [hx, hy]
    _ = (x &&& y) &&& (m &&& n) := by ac_rfl
    _ = 0#w := by rw [h, BitVec.and_zero]

/-- `extract_of_mask` at any width: where the mask is all ones, a value masked to `v` has the bits of `v`. -/
theorem extractLsb'_of_and_eq {w : Nat} {x m v : BitVec w} (h : x &&& m = v) (lo n : Nat)
    (hm : m.extractLsb' lo n = BitVec.allOnes n) : x.extractLsb' lo n = v.extractLsb' lo n := by
  rw [← h, BitVec.extractLsb'_and, hm, BitVec.and_allOnes]

/-- The four parts of a composed opcode are pairwise disjoint (00_scope.md R14, 70_reset_and_hazards.md R262). -/
structure PartsDisjoint : Prop where
  base_md : p.adcvBase &&& mdField p md = 0#16
  base_dcp : p.adcvBase &&& dcpField p dcp = 0#16
  base_ch : p.adcvBase &&& ch.setWidth 16 = 0#16
  md_dcp : mdField p md &&& dcpField p dcp = 0#16
  md_ch : mdField p md &&& ch.setWidth 16 = 0#16
  dcp_ch : dcpField p dcp &&& ch.setWidth 16 = 0#16

variable {p}

/-- A template without overlap keeps the parts disjoint, whatever the operands. -/
theorem partsDisjoint_of_templateDisjoint (h : templateDisjoint p = true) : PartsDisjoint p md dcp ch := by
  simp only [templateDisjoint, fieldMask, Bool.and_eq_true, beq_iff_eq, BitVec.and_or_distrib_left,
    BitVec.or_eq_zero_iff] at h
  obtain ⟨⟨⟨⟨⟨baseMd, baseDcp⟩, baseCh⟩, mdDcp⟩, mdCh⟩, dcpCh⟩ := h
  have hbase := BitVec.and_self (x := p.adcvBase)
  have hmd := mdField_and_mask p md
  have hdcp := dcpField_and_mask p dcp
  have hch := chField_and_mask ch
  exact {
    base_md := and_eq_zero_of_masks hbase hmd baseMd
    base_dcp := and_eq_zero_of_masks hbase hdcp baseDcp
    base_ch := and_eq_zero_of_masks hbase hch baseCh
    md_dcp := and_eq_zero_of_masks hmd hdcp mdDcp
    md_ch := and_eq_zero_of_masks hmd hch mdCh
    dcp_ch := and_eq_zero_of_masks hdcp hch dcpCh }

/-- Masked to the mode bits, the composed opcode is its mode field. -/
theorem composeAdcv_and_mdMask (h : templateDisjoint p = true) :
    composeAdcv p md ch dcp &&& mdField p 3#2 = mdField p md := by
  have d := partsDisjoint_of_templateDisjoint 3#2 dcp ch h
  simp only [composeAdcv, BitVec.and_or_distrib_right, mdField_and_mask, d.base_md,
    (BitVec.and_comm _ _).trans d.md_dcp, (BitVec.and_comm _ _).trans d.md_ch, BitVec.zero_or, BitVec.or_zero]

/-- Masked to the discharge bit, the composed opcode is its discharge permit. -/
theorem composeAdcv_and_dcpMask (h : templateDisjoint p = true) :
    composeAdcv p md ch dcp &&& dcpField p true = dcpField p dcp := by
  have d := partsDisjoint_of_templateDisjoint md true ch h
  simp only [composeAdcv, BitVec.and_or_distrib_right, dcpField_and_mask, d.base_dcp, d.md_dcp,
    (BitVec.and_comm _ _).trans d.dcp_ch, BitVec.zero_or, BitVec.or_zero]

/-- Masked to the low three bits, the composed opcode is its channel. -/
theorem composeAdcv_and_chMask (h : templateDisjoint p = true) :
    composeAdcv p md ch dcp &&& 0x7#16 = ch.setWidth 16 := by
  have d := partsDisjoint_of_templateDisjoint md dcp 7#3 h
  rw [show 0x7#16 = (7#3).setWidth 16 by decide]
  simp only [composeAdcv, BitVec.and_or_distrib_right, chField_and_mask, d.base_ch, d.md_ch, d.dcp_ch,
    BitVec.zero_or]

/-- Disjoint parts add up as they combine. -/
theorem composeAdcv_eq_add (h : templateDisjoint p = true) :
    composeAdcv p md ch dcp = p.adcvBase + mdField p md + dcpField p dcp + ch.setWidth 16 := by
  have d := partsDisjoint_of_templateDisjoint md dcp ch h
  rw [composeAdcv, BitVec.add_eq_or_of_and_eq_zero _ _ d.base_md, BitVec.add_eq_or_of_and_eq_zero _ (dcpField p dcp),
    BitVec.add_eq_or_of_and_eq_zero _ (ch.setWidth 16)]
  · simp only [BitVec.and_or_distrib_right, d.base_ch, d.md_ch, d.dcp_ch, BitVec.or_zero]
  · simp only [BitVec.and_or_distrib_right, d.base_dcp, d.md_dcp, BitVec.or_zero]

end OpcodeFields

/-- Settles O20: each field of a composed opcode is what its mask leaves, and disjoint parts add up. -/
theorem composedFieldsComeBack : Obligations.ComposedFieldsComeBack := by
  unfold Obligations.ComposedFieldsComeBack
  refine ⟨fun p md ch dcp h => ⟨?mode, ?discharge, ?channel, composeAdcv_eq_add md dcp ch h⟩, ?pattern⟩
  case mode =>
    rw [extractLsb'_of_and_eq (composeAdcv_and_mdMask md dcp ch h) _ 2 (mdField_extract p 3#2), mdField_extract]
  case discharge =>
    have bit := congrArg (·.getLsbD p.dcpBit.val) (composeAdcv_and_dcpMask md dcp ch h)
    simpa only [BitVec.getLsbD_and, dcpField_getLsbD, Bool.and_true] using bit
  case channel =>
    rw [extractLsb'_of_and_eq (composeAdcv_and_chMask md dcp ch h) 0 3 (by decide), chField_extract]
  case pattern => decide

/-! ### Renaming causes through an operation (00_scope.md R20) -/

/-- A part of an operation with every cause in its state renamed. -/
def Flow.mapCauses {B C P Q : Type} (f : B → C) (g : P → Q) : Flow B P → Flow C Q
  | .running s => .running (s.mapCauses f g)
  | .ended s => .ended (s.mapCauses f g)

section Renaming

variable {B C P Q : Type} (f : B → C) (g : P → Q)

/-- Renaming commutes with going on, where it commutes with the continuation from the state reached. -/
theorem Flow.mapCauses_andThen {fl : Flow B P} {k : State B P → State B P} {k' : State C Q → State C Q}
    (hk : ∀ u, fl = .running u → k' (u.mapCauses f g) = (k u).mapCauses f g) :
    (fl.mapCauses f g).andThen k' = (fl.andThen k).mapCauses f g := by
  cases fl with
  | running u => exact hk u rfl
  | ended t => rfl

theorem State.mapCauses_refuse (s : State B P) (why : RefuseReason) :
    (s.mapCauses f g).refuse why = (s.refuse why).mapCauses f g := rfl

@[simp] theorem State.mapCauses_runCalc (s : State B P) (d : List Byte) :
    (s.mapCauses f g).runCalc d = (s.runCalc d).mapCauses f g := rfl

@[simp] theorem State.mapCauses_runFrame (s : State B P) (opc : Word16) :
    (s.mapCauses f g).runFrame opc = (s.runFrame opc).mapCauses f g := rfl

@[simp] theorem State.mapCauses_setRsp (s : State B P) (r : ResponseFrame) :
    (s.mapCauses f g).setRsp r = (s.setRsp r).mapCauses f g := rfl

@[simp] theorem State.mapCauses_clearOut (s : State B P) :
    (s.mapCauses f g).clearOut = s.clearOut.mapCauses f g := rfl

@[simp] theorem State.mapCauses_storeOut (s : State B P) (v : Triple) :
    (s.mapCauses f g).storeOut v = (s.storeOut v).mapCauses f g := rfl

@[simp] theorem State.mapCauses_cmd (s : State B P) : (s.mapCauses f g).cmd = s.cmd := rfl

theorem State.mapCauses_respond (s : State B P) (r : Response B P) :
    (s.mapCauses f g).respond (r.mapCauses f g) = (s.respond r).mapCauses f g := by
  simp [State.mapCauses, State.respond]

/-- ASSERT_AND_SEND uses at most two pin draws and one transfer draw. -/
theorem State.mapCauses_assertAndSend {s : State B P} (opc : Word16) (hp : 2 ≤ s.pinDraws.length)
    (hb : 1 ≤ s.busDraws.length) :
    (s.mapCauses f g).assertAndSend opc = (s.assertAndSend opc).mapCauses f g := by
  have assertNamed : s.pinDraws ≠ [] := List.ne_nil_of_length_pos (by omega)
  have releaseNamed : s.pinSetLow.pinDraws ≠ [] := List.ne_nil_of_length_pos (by simp; omega)
  have commandNamed : (s.pinSetLow.runFrame opc).busDraws ≠ [] := List.ne_nil_of_length_pos hb
  unfold State.assertAndSend
  simp only [State.mapCauses_pinDraw f g assertNamed, State.mapCauses_pinSetLow f g assertNamed,
    State.mapCauses_runFrame, State.mapCauses_busDraw f g _ commandNamed, State.mapCauses_cmd,
    State.mapCauses_busTransfer f g _ commandNamed]
  cases s.pinDraw with
  | err c => exact congrArg Flow.ended (State.mapCauses_fail f g (.chipSelectFailure c) releaseNamed)
  | ok =>
    cases (s.pinSetLow.runFrame opc).busDraw 4 with
    | err b =>
      simp only [renamePin, renameBus]
      exact congrArg Flow.ended (State.mapCauses_fail f g (.transferFailure b) releaseNamed)
    | ok rx => simp only [renamePin, renameBus, Flow.mapCauses]

/-- The device loop for `n` devices uses at most `n` transfer draws, and one pin draw where it fails. -/
theorem State.mapCauses_readDevices (n : Nat) : ∀ {s : State B P}, s.pinDraws ≠ [] → n ≤ s.busDraws.length →
    (s.mapCauses f g).readDevices n = (s.readDevices n).mapCauses f g := by
  induction n with
  | zero => intros; rfl
  | succ n ih =>
    intro s hp hb
    have transferNamed : s.busDraws ≠ [] := List.ne_nil_of_length_pos (by omega)
    unfold State.readDevices
    simp only [State.mapCauses_busDraw f g _ transferNamed, State.mapCauses_busTransfer f g _ transferNamed]
    cases s.busDraw 8 with
    | err b => exact congrArg Flow.ended (State.mapCauses_fail f g (.transferFailure b) hp)
    | ok rx =>
      simp only [renameBus, State.mapCauses_setRsp, State.mapCauses_rsp, State.mapCauses_runCalc, State.setRsp_rsp]
      cases validate (responseFrameOf rx) with
      | none => exact congrArg Flow.ended (State.mapCauses_fail f g .checksumMismatch hp)
      | some v =>
        simp only [State.mapCauses_storeOut]
        exact ih (by simpa using hp) (by simp; omega)

/-- What ASSERT_AND_SEND leaves of the draws where it goes on: all but one of each list. -/
theorem assertAndSend_running_draws {s u : State B P} {opc : Word16} (h : s.assertAndSend opc = .running u) :
    u.params = s.params ∧ u.pinDraws = s.pinDraws.tail ∧ u.busDraws = s.busDraws.tail := by
  rcases assertAndSend_cases s opc with ⟨_, _, _, e, -⟩ | ⟨_, _, _, e, -⟩ | ⟨rx, v, e, -, -, hw, -⟩
  · simp [e] at h
  · simp [e] at h
  · obtain rfl : v = u := by simpa [e] using h
    exact ⟨hw.params, by simpa [List.countP_cons, Event.isPin, commandEvent] using hw.pinDraws,
      by simpa [List.countP_cons, Event.isPin, commandEvent] using hw.busDraws⟩

/-- The device loop makes no pin call where it goes on. -/
theorem readDevices_running_pinDraws {n : Nat} {s u : State B P} (h : s.readDevices n = .running u) :
    u.pinDraws = s.pinDraws := by
  rcases readDevices_cases n s with ⟨fs, v, e, -, -, -, hw, -⟩ | ⟨_, _, _, _, e, -⟩ | ⟨_, _, _, _, e, -⟩
  · obtain rfl : v = u := by simpa [e] using h
    have noPin : (fs.map deviceEvent).countP (Event.isPin (B := B) (P := P)) = 0 := by
      simp [List.countP_eq_zero, deviceEvent, Event.isPin]
    simpa [noPin] using hw.pinDraws
  · simp [e] at h
  · simp [e] at h

/-! ### Renaming causes through the requests -/

theorem State.mapCauses_concludeStart {s : State B P} (hp : s.pinDraws ≠ []) :
    (s.mapCauses f g).concludeStart = s.concludeStart.mapCauses f g := by
  unfold State.concludeStart
  rw [State.mapCauses_strategy]
  cases s.strategy with
  | releaseImmediately => exact State.mapCauses_releaseAndReturn f g .unit hp
  | lineHold => exact State.mapCauses_conclude f g (s.setPhase (afterCommandSent .lineHold)) (.ok .unit)

theorem State.mapCauses_startConversion {s : State B P} (md : BitVec 2) (dcp : Bool) (ch : BitVec 3)
    (hp : 2 ≤ s.pinDraws.length) (hb : 1 ≤ s.busDraws.length) :
    (s.mapCauses f g).startConversion md dcp ch = (s.startConversion md dcp ch).mapCauses f g := by
  unfold State.startConversion
  rw [State.mapCauses_params, State.mapCauses_assertAndSend f g _ hp hb]
  refine Flow.mapCauses_andThen f g fun u hu => State.mapCauses_concludeStart f g ?_
  obtain ⟨-, pins, -⟩ := assertAndSend_running_draws hu
  exact List.ne_nil_of_length_pos (by rw [pins, List.length_tail]; omega)

theorem State.mapCauses_readRegisterGroup {s : State B P} (r : RegisterGroup)
    (hp : 2 ≤ s.pinDraws.length) (hb : s.params.chainLength + 1 ≤ s.busDraws.length) :
    (s.mapCauses f g).readRegisterGroup r = (s.readRegisterGroup r).mapCauses f g := by
  unfold State.readRegisterGroup
  rw [State.mapCauses_params, State.mapCauses_assertAndSend f g _ hp (by omega)]
  refine Flow.mapCauses_andThen f g fun u hu => ?_
  obtain ⟨params, pins, buses⟩ := assertAndSend_running_draws hu
  have releaseNamed : u.clearOut.pinDraws ≠ [] :=
    List.ne_nil_of_length_pos (by rw [State.clearOut_pinDraws, pins, List.length_tail]; omega)
  have readsNamed : u.params.chainLength ≤ u.clearOut.busDraws.length := by
    rw [params, State.clearOut_busDraws, buses, List.length_tail]; omega
  rw [State.mapCauses_params, State.mapCauses_clearOut, State.mapCauses_readDevices f g _ releaseNamed readsNamed]
  refine Flow.mapCauses_andThen f g fun v hv => ?_
  exact State.mapCauses_releaseAndReturn f g (.triples v.out) (readDevices_running_pinDraws hv ▸ releaseNamed)

theorem State.mapCauses_pollConversionDone {s : State B P} (hp : s.pinDraws ≠ []) (hb : s.busDraws ≠ []) :
    (s.mapCauses f g).pollConversionDone = s.pollConversionDone.mapCauses f g := by
  unfold State.pollConversionDone
  simp only [State.mapCauses_busDraw f g _ hb, State.mapCauses_busTransfer f g _ hb]
  cases s.busDraw 1 with
  | err b => exact State.mapCauses_fail f g (.transferFailure b) hp
  | ok rx =>
    simp only [renameBus]
    split
    · exact State.mapCauses_releaseAndReturn f g (.done true) hp
    · exact State.mapCauses_conclude f g _ (.ok (.done false))

/-! ### Renaming causes through a request: the next state is renamed with them -/

variable {s t : State B P}

theorem execCalc_mapCauses {d : List Byte} (h : execCalc d s = .next t) :
    execCalc d (s.mapCauses f g) = .next (t.mapCauses f g) := by
  cases h
  exact congrArg Host.Outcome.next (State.mapCauses_conclude f g (s.runCalc d) (.ok _))

theorem execFrame_mapCauses {opc : Word16} (h : execFrame opc s = .next t) :
    execFrame opc (s.mapCauses f g) = .next (t.mapCauses f g) := by
  cases h
  exact congrArg Host.Outcome.next (State.mapCauses_conclude f g (s.runFrame opc) (.ok _))

theorem validateResponse_mapCauses (v : Option Triple) :
    (validateResponse v : Response B P).mapCauses f g = validateResponse v := by
  cases v <;> rfl

theorem execValidate_mapCauses {r : ResponseFrame} (h : execValidate r s = .next t) :
    execValidate r (s.mapCauses f g) = .next (t.mapCauses f g) := by
  cases h
  unfold execValidate
  rw [State.mapCauses_runCalc, ← validateResponse_mapCauses f g, State.mapCauses_conclude]

theorem execStartconv_mapCauses {md : BitVec 2} {dcp : Bool} {ch : BitVec 3} (hp : 2 ≤ s.pinDraws.length)
    (hb : 1 ≤ s.busDraws.length) (h : execStartconv md dcp ch s = .next t) :
    execStartconv md dcp ch (s.mapCauses f g) = .next (t.mapCauses f g) := by
  cases h
  unfold execStartconv
  rw [State.mapCauses_params]
  cases supportsCh s.params ch with
  | true => exact congrArg Host.Outcome.next (State.mapCauses_startConversion f g md dcp ch hp hb)
  | false => exact congrArg Host.Outcome.next (State.mapCauses_refuse f g s _)

theorem execRead_mapCauses {reg : BitVec 5} (hp : 2 ≤ s.pinDraws.length)
    (hb : s.params.chainLength + 1 ≤ s.busDraws.length) (h : execRead reg s = .next t) :
    execRead reg (s.mapCauses f g) = .next (t.mapCauses f g) := by
  cases h
  unfold execRead
  rw [State.mapCauses_params]
  cases admittedGroup s.params reg with
  | some r => exact congrArg Host.Outcome.next (State.mapCauses_readRegisterGroup f g r hp hb)
  | none => exact congrArg Host.Outcome.next (State.mapCauses_refuse f g s _)

theorem execPoll_mapCauses (hp : s.pinDraws ≠ []) (hb : s.busDraws ≠ []) (h : execPoll s = .next t) :
    execPoll (s.mapCauses f g) = .next (t.mapCauses f g) := by
  cases h
  unfold execPoll
  rw [State.mapCauses_strategy]
  cases s.strategy with
  | releaseImmediately => exact congrArg Host.Outcome.next (State.mapCauses_refuse f g s _)
  | lineHold => exact congrArg Host.Outcome.next (State.mapCauses_pollConversionDone f g hp hb)

theorem execSwitch_mapCauses {target : Strategy} (h : execSwitch target s = .next t) :
    execSwitch target (s.mapCauses f g) = .next (t.mapCauses f g) := by
  cases h
  unfold execSwitch
  rw [State.mapCauses_strategy]
  cases switchAdmitted s.strategy target with
  | true => exact congrArg Host.Outcome.next (State.mapCauses_respond f g (s.setStrategy target) (.ok .unit))
  | false => exact congrArg Host.Outcome.next (State.mapCauses_refuse f g s _)

end Renaming

/-- Settles O52: every meaning commutes with the renaming; the draws named by the premise are all that one operation
can use. -/
theorem causesAreCarriedVerbatim : Obligations.CausesAreCarriedVerbatim := by
  unfold Obligations.CausesAreCarriedVerbatim
  intro f g i s t hp hb h
  have transferNamed : 1 ≤ s.busDraws.length := by omega
  cases i with
  | calcPec d => exact execCalc_mapCauses f g h
  | frame opc => exact execFrame_mapCauses f g h
  | validate r => exact execValidate_mapCauses f g h
  | startconv md dcp ch => exact execStartconv_mapCauses f g hp transferNamed h
  | read reg => exact execRead_mapCauses f g hp hb h
  | poll =>
    exact execPoll_mapCauses f g (List.ne_nil_of_length_pos (by omega)) (List.ne_nil_of_length_pos transferNamed) h
  | switch target => exact execSwitch_mapCauses f g h

end Sys2Proof.Machine
end

section
/-! State of the block (10_state.md): what one request can leave, and from it the invariant (R36), the histories (R37 to
R40), the strategy (R33), the STATUS word (R41), and what no operation reads (R30, R35). -/

namespace Sys2Proof.Machine

open Sys2Proof

variable {B P : Type}

/-! ### The request a step takes (R31) -/

@[simp] theorem State.takeRequest_placeFirst (s : State B P) (q : HostRequest) : (s.placeFirst q).takeRequest = s := rfl

/-- A step with a request pending runs the oldest one. -/
theorem step_of_pending {s : State} {q : HostRequest} {rest : List HostRequest} (hq : s.requests = q :: rest) :
    step s = runRequest q s.takeRequest := by
  simp only [step, stepState, hq]

/-- With no request pending the block holds its state (60_exceptions.md R245). -/
theorem step_of_idle {s : State} (hq : s.requests = []) : step s = .next s := by
  simp only [step, stepState, hq]

theorem runRequest_of_decode {q : HostRequest} {i : Instr} (hd : decode q = .ok i) (s : State) :
    runRequest q s = exec i s := by
  simp only [runRequest, hd]

theorem runRequest_of_decodeError {q : HostRequest} {e : DecodeError} (hd : decode q = .error e) (s : State) :
    runRequest q s = .next (s.refuse .reservedEncoding) := by
  simp only [runRequest, hd]

theorem State.takeRequest_eq {s : State B P} {q : HostRequest} {rest : List HostRequest} (hq : s.requests = q :: rest) :
    s.takeRequest = { s with requests := rest } := by
  simp only [State.takeRequest, hq, List.tail_cons]

/-- Settles O4: a step is `runRequest` of the oldest request, and `runRequest` follows the decoder. -/
theorem stepRunsDecodedRequest : Obligations.StepRunsDecodedRequest := by
  unfold Obligations.StepRunsDecodedRequest
  refine ⟨fun s q rest i hq hd => ?decodes, fun s q rest e hq hd => ?reserved, fun s => step_of_idle⟩
  case decodes =>
    rw [step_of_pending hq, runRequest_of_decode hd, State.takeRequest_eq hq]
  case reserved =>
    rw [step_of_pending hq, runRequest_of_decodeError hd, State.takeRequest_eq hq]
    exact ⟨_, rfl, refuses_refuse _ _⟩

theorem decode_requestOfBits {nbits w : Nat} {i : Instr} (h : decodeTableWord nbits w = some i) :
    decode (requestOfBits nbits w) = .ok i := by
  unfold decodeTableWord at h
  cases hd : decode (requestOfBits nbits w) with
  | ok j =>
    rw [hd] at h
    exact congrArg Except.ok (Option.some.inj h)
  | error e =>
    rw [hd] at h
    cases h

/-- Settles O5: the placed request is the oldest pending one, and taking it gives the state back. -/
theorem fetchedTableWordRuns : Obligations.FetchedTableWordRuns := by
  unfold Obligations.FetchedTableWordRuns
  intro s nbits w i h
  unfold State.withFetchWord
  rw [step_of_pending (State.placeFirst_requests s _), State.takeRequest_placeFirst,
    runRequest_of_decode (decode_requestOfBits h)]

/-! ### The STATUS word (R41) -/

/-- The fields of a word packed as STATUS is. -/
theorem statusFields (refused : Bool) (phase : BitVec 1) (cs : BitVec 2) (strat : BitVec 1) :
    let w : BitVec 32 := 0#27 ++ BitVec.ofBool refused ++ phase ++ cs ++ strat
    w.extractLsb' 0 1 = strat ∧ w.extractLsb' 1 2 = cs ∧ w.extractLsb' 3 1 = phase ∧ w.getLsbD 4 = refused ∧
      w.extractLsb' 5 27 = 0#27 := by
  revert refused phase cs strat
  decide

theorem csCode_ne_three (l : Line) : csCode l ≠ 0b11#2 := by
  cases l <;> decide

/-- Settles O48: the fields of STATUS are the codes of the persistent fields, and no line has the code 0b11. -/
theorem statusWordLayout : Obligations.StatusWordLayout := by
  unfold Obligations.StatusWordLayout
  intro s
  obtain ⟨strat, cs, phase, refused, above⟩ :=
    statusFields s.refused (phaseCode s.phase) (csCode s.csLine) (stratCode s.strategy)
  refine ⟨strat.trans ?_, cs.trans ?_, phase.trans ?_, refused, above, fun h => csCode_ne_three _ (cs.symm.trans h)⟩
  · cases s.strategy <;> rfl
  · cases s.csLine <;> rfl
  · cases s.phase <;> rfl

/-! ### The operations follow the path table (42_transfer.md R193) -/

/-- Operation `i` has led from `s` to `t` along a row of the path table, its calls with the outcomes drawn for them. -/
def FollowsPath (s : State B P) (i : Instr) (t : State B P) : Prop :=
  ∃ calls r line phase, TransferPath s.params s.strategy s.csLine s.phase i calls r line phase ∧ Supplies calls s ∧
    Concludes s t r calls line phase

/-- An admitted bus operation whose assert or command fails follows a row of the path table; so it does on every path
where its continuation does from the transmitted command. -/
theorem followsPath_command {s : State B P} {i : Instr} {opc : Word16} {k : State B P → State B P}
    (hopc : admittedOpcode s.params i = some opc)
    (hk : ∀ rx u, rx.length = 4 → Supplies (sentCalls opc rx) s → Within s u (sentCalls opc rx) →
      u.csLine = .asserted → FollowsPath s i (k u)) :
    FollowsPath s i ((s.assertAndSend opc).andThen k) := by
  rcases assertAndSend_cases s opc with ⟨c, x, t, e, hs, hc⟩ | ⟨b, x, t, e, hs, hc⟩ | ⟨rx, u, e, hl, hs, hw, hline, -⟩
  · rw [e]
    exact ⟨_, _, _, _, .assertFails i opc c x hopc, hs, hc⟩
  · rw [e]
    exact ⟨_, _, _, _, .commandFails i opc b x hopc, hs, hc⟩
  · rw [e]
    exact hk rx u hl hs hw hline

/-- The draws of the calls made so far, then of the concluding release. -/
theorem Within.supplies_release {s u : State B P} {calls : List (Event B P)} (hw : Within s u calls)
    (hs : Supplies calls s) : Supplies (calls ++ [.pinHigh u.pinDraw]) s :=
  (Supplies.append hw.draws).mpr ⟨hs, rfl, trivial⟩

/-- An admitted START follows a row of the path table. -/
theorem startConversion_followsPath {s : State B P} {ch : BitVec 3} (md : BitVec 2) (dcp : Bool)
    (h : supportsCh s.params ch = true) : FollowsPath s (.startconv md dcp ch) (s.startConversion md dcp ch) := by
  have hopc : admittedOpcode s.params (.startconv md dcp ch) = some (composeAdcv s.params md ch dcp) := by
    simp [admittedOpcode, h]
  refine followsPath_command hopc fun rx u hl hs hw hline => ?_
  unfold State.concludeStart
  cases hg : u.strategy with
  | releaseImmediately =>
    exact ⟨_, _, _, _, .startReleases md dcp ch _ rx u.pinDraw hopc (hw.strategy.symm.trans hg) hl,
      hw.supplies_release hs, hw.releaseAndReturn .unit⟩
  | lineHold =>
    have held := (hw.trans (within_setPhase u (afterCommandSent .lineHold))).conclude (.ok .unit)
    rw [List.append_nil, State.setPhase_csLine, hline] at held
    exact ⟨_, _, _, _, .startHolds md dcp ch _ rx hopc (hw.strategy.symm.trans hg) hl, hs, held⟩

/-- An admitted READ follows a row of the path table. -/
theorem readRegisterGroup_followsPath {s : State B P} {reg : BitVec 5} {g : RegisterGroup}
    (h : admittedGroup s.params reg = some g) : FollowsPath s (.read reg) (s.readRegisterGroup g) := by
  have hopc : admittedOpcode s.params (.read reg) = some (opcodeOf s.params.opcodeOf g) := by
    simp [admittedOpcode, h]
  refine followsPath_command hopc fun rx u hl hs hw hline => ?_
  have begun := hw.trans (within_clearOut u)
  rw [List.append_nil] at begun
  rcases readDevices_cases u.params.chainLength u.clearOut with ⟨fs, v, e, hn, hok, hd, hr, ho, -⟩ |
    ⟨fs, b, x, t, e, hn, hok, hd, hc⟩ | ⟨fs, bad, x, t, e, hn, hok, hbad, hd, hc⟩
  · rw [e]
    rw [hw.params] at hn
    rw [State.clearOut_out, List.nil_append] at ho
    have read := begun.trans hr
    have drawn := (Supplies.append begun.draws).mpr ⟨hs, hd⟩
    refine ⟨_, _, _, _, .readReturns reg _ rx fs v.pinDraw hopc hl hn hok, read.supplies_release drawn, ?_⟩
    rw [← ho]
    exact read.releaseAndReturn (.triples v.out)
  · rw [e]
    rw [hw.params] at hn
    refine ⟨_, _, _, _, .deviceFails reg _ rx fs b x hopc hl hn hok, ?_, ?_⟩ <;> rw [List.append_assoc]
    · exact (Supplies.append begun.draws).mpr ⟨hs, hd⟩
    · exact begun.concludes hc
  · rw [e]
    rw [hw.params] at hn
    refine ⟨_, _, _, _, .deviceMismatches reg _ rx fs bad x hopc hl hn hok hbad, ?_, ?_⟩ <;> rw [List.append_assoc]
    · exact (Supplies.append begun.draws).mpr ⟨hs, hd⟩
    · exact begun.concludes hc

/-- An admitted POLL follows a row of the path table. -/
theorem pollConversionDone_followsPath {s : State B P} (h : s.strategy = .lineHold) :
    FollowsPath s .poll s.pollConversionDone := by
  have sampled := within_busTransfer s [allOnes]
  unfold State.pollConversionDone
  cases hb : s.busDraw 1 with
  | err b =>
    rw [show s.busDraw [allOnes].length = .err b from hb] at sampled
    exact ⟨_, _, _, _, .sampleFails b _ h, sampled.supplies_release ⟨hb, trivial⟩, sampled.fail (.transferFailure b)⟩
  | ok rx =>
    obtain ⟨b, rfl⟩ := List.length_eq_one_iff.mp (State.busDraw_ok_length hb)
    rw [show s.busDraw [allOnes].length = .ok [b] from hb] at sampled
    by_cases idle : b = allOnes
    · subst idle
      simp only [↓reduceIte]
      exact ⟨_, _, _, _, .sampleIdle _ h, sampled.supplies_release ⟨hb, trivial⟩, sampled.releaseAndReturn (.done true)⟩
    · have busy : [b] ≠ [allOnes] := fun e => idle (List.head_eq_of_cons_eq e)
      simp only [busy, ↓reduceIte]
      exact ⟨_, _, _, _, .sampleBusy b h idle, ⟨hb, trivial⟩, sampled.conclude (.ok (.done false))⟩

/-! ### The widths of OUT and IDX (R30) -/

/-- OUT holds L triples and IDX is at most L. -/
structure State.BuffersFit (s : State B P) : Prop where
  out : s.out.length = s.params.chainLength
  idx : s.idx ≤ s.params.chainLength

theorem conclude_buffersFit (s : State B P) (r : Response B P) : (s.conclude r).BuffersFit where
  out := by simp
  idx := Nat.le_of_lt_succ (Nat.mod_lt _ (Nat.succ_pos _))

theorem fail_buffersFit (s : State B P) (e : Error B P) : (s.fail e).BuffersFit := conclude_buffersFit _ _

theorem releaseAndReturn_buffersFit (s : State B P) (v : Value) : (s.releaseAndReturn v).BuffersFit :=
  conclude_buffersFit _ _

/-- A part of an operation leaves buffers that fit where it ends the operation. -/
def Flow.EndFits : Flow B P → Prop
  | .running _ => True
  | .ended t => t.BuffersFit

theorem Flow.EndFits.andThen {f : Flow B P} {k : State B P → State B P} (h : f.EndFits)
    (hk : ∀ u, (k u).BuffersFit) : (f.andThen k).BuffersFit := by
  cases f with
  | running u => exact hk u
  | ended t => exact h

theorem assertAndSend_endFits (s : State B P) (opc : Word16) : (s.assertAndSend opc).EndFits := by
  unfold State.assertAndSend
  split
  · exact fail_buffersFit _ _
  · dsimp only
    split
    · exact fail_buffersFit _ _
    · trivial

theorem readDevices_endFits (n : Nat) : ∀ s : State B P, (s.readDevices n).EndFits := by
  induction n with
  | zero => exact fun s => trivial
  | succ n ih =>
    intro s
    unfold State.readDevices
    split
    · exact fail_buffersFit _ _
    · dsimp only
      split
      · exact fail_buffersFit _ _
      · exact ih _

theorem concludeStart_buffersFit (s : State B P) : s.concludeStart.BuffersFit := by
  unfold State.concludeStart
  split
  · exact releaseAndReturn_buffersFit _ _
  · exact conclude_buffersFit _ _

theorem startConversion_buffersFit (s : State B P) (md : BitVec 2) (dcp : Bool) (ch : BitVec 3) :
    (s.startConversion md dcp ch).BuffersFit :=
  (assertAndSend_endFits s _).andThen concludeStart_buffersFit

theorem readRegisterGroup_buffersFit (s : State B P) (g : RegisterGroup) : (s.readRegisterGroup g).BuffersFit :=
  (assertAndSend_endFits s _).andThen fun _ =>
    (readDevices_endFits _ _).andThen fun _ => releaseAndReturn_buffersFit _ _

theorem pollConversionDone_buffersFit (s : State B P) : s.pollConversionDone.BuffersFit := by
  unfold State.pollConversionDone
  split
  · exact fail_buffersFit _ _
  · split
    · exact releaseAndReturn_buffersFit _ _
    · exact conclude_buffersFit _ _

/-! ### What one request can leave -/

/-- How operation `i`, begun in `s`, comes to its response: with no call, or along a row of the path table with the
outcomes drawn for its calls. -/
inductive OperationPath (s : State B P) (i : Instr) :
    List (Event B P) → Response B P → Line → Phase → Prop where
  | pure (r : Response B P) : OperationPath s i [] r s.csLine s.phase
  | transfer {calls : List (Event B P)} {r : Response B P} {line : Line} {phase : Phase} :
      TransferPath s.params s.strategy s.csLine s.phase i calls r line phase → Supplies calls s →
      OperationPath s i calls r line phase

/-- Everything one request can leave of `s`, where `o` is the operation it stands for, none for a reserved encoding:
a refusal, an admitted switch, or the response of an operation. -/
inductive Answers (s : State B P) : Option Instr → State B P → Prop where
  | refuses (o : Option Instr) (why : RefuseReason) : Answers s o (s.refuse why)
  | switches : s.strategy = .releaseImmediately →
      Answers s (some (.switch .lineHold)) ((s.setStrategy .lineHold).respond (.ok .unit))
  | responds {i : Instr} {t : State B P} {calls : List (Event B P)} {r : Response B P} {line : Line} {phase : Phase} :
      OperationPath s i calls r line phase → Concludes s t r calls line phase → t.BuffersFit → Answers s (some i) t

/-- A pure operation concludes from a state reached without a call. -/
theorem Within.answers_pure {s u : State B P} (h : Within s u []) (hl : u.csLine = s.csLine)
    (hph : u.phase = s.phase) (i : Instr) (r : Response B P) : Answers s (some i) (u.conclude r) := by
  have returned := h.conclude r
  rw [hl, hph] at returned
  exact .responds (.pure r) returned (conclude_buffersFit u r)

theorem FollowsPath.answers {s t : State B P} {i : Instr} (h : FollowsPath s i t) (fit : t.BuffersFit) :
    Answers s (some i) t := by
  obtain ⟨_, _, _, _, path, drawn, hc⟩ := h
  exact .responds (.transfer path drawn) hc fit

/-- Every operation leaves what `Answers` names. -/
theorem exec_answers {i : Instr} {s t : State} (h : exec i s = .next t) : Answers s (some i) t := by
  cases i with
  | calcPec d =>
    cases h
    exact (within_runCalc s d).answers_pure rfl rfl _ _
  | frame opc =>
    cases h
    exact (within_runFrame s opc).answers_pure rfl rfl _ _
  | validate r =>
    cases h
    exact (within_runCalc s (payload r)).answers_pure rfl rfl _ _
  | startconv md dcp ch =>
    cases h
    cases hch : supportsCh s.params ch with
    | true => exact (startConversion_followsPath md dcp hch).answers (startConversion_buffersFit s md dcp ch)
    | false => exact .refuses _ _
  | read reg =>
    cases h
    cases hreg : admittedGroup s.params reg with
    | some g => exact (readRegisterGroup_followsPath hreg).answers (readRegisterGroup_buffersFit s g)
    | none => exact .refuses _ _
  | poll =>
    cases h
    cases hg : s.strategy with
    | lineHold => exact (pollConversionDone_followsPath hg).answers (pollConversionDone_buffersFit s)
    | releaseImmediately => exact .refuses _ _
  | switch target =>
    cases h
    cases hg : s.strategy with
    | lineHold => exact .refuses _ _
    | releaseImmediately =>
      cases target with
      | lineHold => exact .switches hg
      | releaseImmediately => exact .refuses _ _

/-- A step with a request pending answers that request. -/
theorem step_answers {s t : State} {q : HostRequest} {rest : List HostRequest} (hq : s.requests = q :: rest)
    (h : step s = .next t) : Answers s.takeRequest (decode q).toOption t := by
  rw [step_of_pending hq] at h
  cases hd : decode q with
  | ok i =>
    rw [runRequest_of_decode hd] at h
    exact exec_answers h
  | error e =>
    rw [runRequest_of_decodeError hd] at h
    cases h
    exact .refuses _ _

/-- Everything a step can do: it changes nothing, or it answers the request it takes. -/
theorem step_cases {s t : State} (h : step s = .next t) : t = s ∨ ∃ o, Answers s.takeRequest o t := by
  cases hq : s.requests with
  | nil => exact .inl (Host.Outcome.next.inj (h.symm.trans (step_of_idle hq)))
  | cons q rest => exact .inr ⟨_, step_answers hq h⟩

/-! ### One answer per request, growing histories, a strategy that goes one way (R31, R33, R37 to R40) -/

/-- One answer per request (10_state.md R31): one response, or one refusal with the mark set. -/
theorem Answers.oneAnswer {s t : State B P} {o : Option Instr} (h : Answers s o t) :
    t.requests = s.requests ∧ t.requestIndex = s.requestIndex + 1 ∧
    ((∃ r, t.responses = s.responses ++ [r] ∧ t.refusals = s.refusals ∧ t.refused = s.refused) ∨
     (∃ why, t.responses = s.responses ∧ t.refusals = s.refusals ++ [why] ∧ t.refused = true)) := by
  cases h with
  | refuses _ why => exact ⟨rfl, rfl, .inr ⟨why, rfl, rfl, rfl⟩⟩
  | switches _ => exact ⟨rfl, rfl, .inl ⟨.ok .unit, rfl, rfl, rfl⟩⟩
  | responds _ hc _ => exact ⟨hc.requests, hc.requestIndex, .inl ⟨_, hc.responses, hc.refusals, hc.refused⟩⟩

/-- Settles O45: what a request leaves, it leaves of the state without that request. -/
theorem oneAnswerPerRequest : Obligations.OneAnswerPerRequest := by
  unfold Obligations.OneAnswerPerRequest
  intro s t q rest hq h
  have answer := (step_answers hq h).oneAnswer
  rwa [State.takeRequest_requests, hq, List.tail_cons] at answer

/-- No request takes back a call or changes a parameter (10_state.md R37, R38). -/
theorem Answers.trace_params {s t : State B P} {o : Option Instr} (h : Answers s o t) :
    s.trace <+: t.trace ∧ t.params = s.params := by
  cases h with
  | refuses _ _ => exact ⟨List.prefix_rfl, rfl⟩
  | switches _ => exact ⟨List.prefix_rfl, rfl⟩
  | responds _ hc _ => exact ⟨hc.trace ▸ List.prefix_append _ _, hc.params⟩

/-- Settles O47: the lists of answers grow by the one answer; a step with nothing pending changes nothing. -/
theorem historiesOnlyGrow : Obligations.HistoriesOnlyGrow := by
  unfold Obligations.HistoriesOnlyGrow
  intro s t h
  obtain rfl | ⟨_, answer⟩ := step_cases h
  · exact ⟨List.prefix_rfl, List.prefix_rfl, List.prefix_rfl, id, rfl⟩
  · obtain ⟨trace, params⟩ := answer.trace_params
    obtain ⟨-, -, ⟨r, responses, refusals, mark⟩ | ⟨why, responses, refusals, mark⟩⟩ := answer.oneAnswer
    · exact ⟨trace, ⟨_, responses.symm⟩, refusals ▸ List.prefix_rfl, fun set => mark.trans set, params⟩
    · exact ⟨trace, responses ▸ List.prefix_rfl, ⟨_, refusals.symm⟩, fun _ => mark, params⟩

/-- Only an admitted switch writes the strategy (10_state.md R33). -/
theorem Answers.strategy {s t : State B P} {o : Option Instr} (h : Answers s o t) :
    t.strategy = s.strategy ∨
      (o = some (.switch .lineHold) ∧ s.strategy = .releaseImmediately ∧ t.strategy = .lineHold) := by
  cases h with
  | refuses _ _ => exact .inl rfl
  | switches hg => exact .inr ⟨rfl, hg, rfl⟩
  | responds _ hc _ => exact .inl hc.strategy

/-- Settles O43: a switch is admitted from ReleaseImmediately only. -/
theorem strategyIsOneWay : Obligations.StrategyIsOneWay := by
  unfold Obligations.StrategyIsOneWay
  refine ⟨fun i s t h changed => ?writes, fun s t held h => ?keeps⟩
  case writes =>
    obtain same | ⟨op, released, holds⟩ := (exec_answers h).strategy
    · exact absurd same changed
    · exact ⟨Option.some.inj op, released, holds⟩
  case keeps =>
    obtain rfl | ⟨_, answer⟩ := step_cases h
    · exact held
    · obtain same | ⟨-, -, holds⟩ := answer.strategy
      · exact same.trans held
      · exact holds

/-! ### The invariant (R36) -/

theorem ofParams_inv {p : Params} (h : paramsWellFormed p) : (State.ofParams p : State B P).Inv where
  params := h
  pollingHoldsLine := fun polling => nomatch polling
  assertedExplained := fun asserted => .inr ⟨rfl, asserted⟩
  lineMatchesTrace := rfl
  traceLawful := fun _ made => nomatch made
  refusedMark := by simp [State.ofParams]
  answered := rfl
  outWidth := List.length_replicate
  idxWidth := Nat.zero_le _

/-- The invariant says nothing of the requests and draws to come. -/
theorem State.Inv.withQueues {s : State B P} (h : s.Inv) (qs : List HostRequest) (pins : List (PinResult P))
    (buses : List (BusResult B)) : { s with requests := qs, pinDraws := pins, busDraws := buses }.Inv :=
  { h with }

theorem construct_eq_ok {p : Params} (h : paramsWellFormed p) (pins : List (PinResult P)) (buses : List (BusResult B)) :
    construct p pins buses = .ok { State.ofParams p with pinDraws := pins, busDraws := buses } := by
  obtain ⟨one, disjoint⟩ := h
  simp [construct, disjoint, Nat.not_lt.mpr one]

theorem paramsWellFormed_of_construct {p : Params} {pins : List (PinResult P)} {buses : List (BusResult B)}
    {s : State B P} (h : construct p pins buses = .ok s) : paramsWellFormed p := by
  unfold construct at h
  split at h
  · cases h
  · next one =>
    split at h
    · next disjoint => exact ⟨Nat.not_lt.mp one, disjoint⟩
    · cases h

theorem construct_inv {p : Params} {pins : List (PinResult P)} {buses : List (BusResult B)} {s : State B P}
    (h : construct p pins buses = .ok s) : s.Inv := by
  have legal := paramsWellFormed_of_construct h
  cases (construct_eq_ok legal pins buses).symm.trans h
  exact (ofParams_inv legal).withQueues _ _ _

theorem paramsWellFormed_default : paramsWellFormed defaultParams := by
  unfold paramsWellFormed
  decide

/-- Settles O2: a construction succeeds exactly with legal parameters, and they make the invariant. -/
theorem constructionMeetsInvariant : Obligations.ConstructionMeetsInvariant :=
  ⟨construct_eq_ok paramsWellFormed_default [] [], ofParams_inv paramsWellFormed_default, fun _ _ _ _ => construct_inv⟩

theorem refuse_inv {s : State B P} (h : s.Inv) (why : RefuseReason) : (s.refuse why).Inv :=
  { h with
    refusedMark := by simp
    answered := by simp [← h.answered, Nat.add_assoc] }

theorem switch_inv {s : State B P} (h : s.Inv) :
    ((s.setStrategy .lineHold).respond (.ok .unit)).Inv :=
  { h with
    pollingHoldsLine := fun polling => ⟨rfl, (h.pollingHoldsLine polling).2⟩
    answered := by simp [← h.answered, Nat.add_right_comm] }

/-- How an operation may leave line and phase: in a poll sequence, released, or as they were with no pin call. -/
inductive LineSettled (g : Strategy) (l : Line) (h : Phase) (calls : List (Event B P)) : Line → Phase → Prop where
  | held : g = .lineHold → LineSettled g l h calls .asserted .polling
  | released (x : PinResult P) : LineSettled g l h calls (levelAfter .deasserted x) .idle
  | untouched : calls.any Event.isPin = false → LineSettled g l h calls l h

theorem levelAfter_deasserted_ne_asserted (x : PinResult P) : levelAfter .deasserted x ≠ .asserted := by
  cases x <;> simp [levelAfter]

/-- An operation that concludes keeps the invariant, where its calls are lawful and leave the line they were drawn
for, and line and phase are settled. -/
theorem Concludes.inv {s t : State B P} {r : Response B P} {calls : List (Event B P)} {line : Line} {phase : Phase}
    (h : s.Inv) (hc : Concludes s t r calls line phase) (fit : t.BuffersFit)
    (lawful : ∀ e ∈ calls, lawfulEvent s.params e) (driven : line = lineAfterTrace s.csLine calls)
    (settled : LineSettled s.strategy s.csLine s.phase calls line phase) : t.Inv where
  params := hc.params ▸ h.params
  pollingHoldsLine := by
    rw [hc.phase, hc.strategy, hc.csLine]
    cases settled with
    | held hg => exact fun _ => ⟨hg, rfl⟩
    | released x => exact fun polling => nomatch polling
    | untouched _ => exact h.pollingHoldsLine
  assertedExplained := by
    rw [hc.csLine, hc.phase, hc.trace, hc.params]
    cases settled with
    | held _ => exact fun _ => .inl rfl
    | released x => exact fun asserted => absurd asserted (levelAfter_deasserted_ne_asserted x)
    | untouched noPin =>
      exact fun asserted => (h.assertedExplained asserted).imp_right fun ⟨before, init⟩ =>
        ⟨by rw [List.any_append, before, noPin]; rfl, init⟩
  lineMatchesTrace := by
    rw [hc.csLine, hc.trace, hc.params, driven, h.lineMatchesTrace]
    exact List.foldl_append.symm
  traceLawful := by
    rw [hc.trace, hc.params]
    exact fun e made => (List.mem_append.mp made).elim (h.traceLawful e) (lawful e)
  refusedMark := by rw [hc.refused, hc.refusals]; exact h.refusedMark
  answered := by simp [hc.responses, hc.refusals, hc.requestIndex, ← h.answered, Nat.add_right_comm]
  outWidth := fit.out
  idxWidth := fit.idx

/-! ### What the path table says of the calls, the line and the phase -/

section PathTable

variable {p : Params} {g : Strategy} {l line : Line} {h phase : Phase} {i : Instr} {calls : List (Event B P)}
  {r : Response B P}

theorem lineAfterTrace_devices (l : Line) (fs : List ResponseFrame) :
    lineAfterTrace l (fs.map deviceEvent : List (Event B P)) = l := by
  induction fs with
  | nil => rfl
  | cons f fs ih => exact ih

theorem lineAfterTrace_append (l : Line) (a b : List (Event B P)) :
    lineAfterTrace l (a ++ b) = lineAfterTrace (lineAfterTrace l a) b := List.foldl_append

/-- The line a row gives is the one its calls leave. -/
theorem TransferPath.line_eq (path : TransferPath p g l h i calls r line phase) : line = lineAfterTrace l calls := by
  cases path with
  | deviceFails | deviceMismatches | readReturns => simp only [lineAfterTrace_append]; rfl
  | _ => rfl

theorem TransferPath.lineSettled (path : TransferPath p g l h i calls r line phase) :
    LineSettled g l h calls line phase := by
  cases path with
  | startHolds _ _ _ _ _ _ hg _ => exact .held hg
  | sampleBusy _ _ _ => exact .untouched rfl
  | _ => exact .released _

/-- An admitted operation transmits an opcode the block may transmit. -/
theorem transmittable_of_admitted {opc : Word16} (hopc : admittedOpcode p i = some opc) : transmittable p opc := by
  unfold admittedOpcode at hopc
  split at hopc
  · next md dcp ch =>
    split at hopc
    · next hch => exact .inl ⟨md, dcp, ch, hch, (Option.some.inj hopc).symm⟩
    · cases hopc
  · next reg =>
    obtain ⟨grp, hgrp, rfl⟩ := Option.map_eq_some_iff.mp hopc
    refine .inr ⟨grp, ?_, rfl⟩
    unfold admittedGroup at hgrp
    split at hgrp
    · split at hgrp
      · next supported => exact Option.some.inj hgrp ▸ supported
      · cases hgrp
    · cases hgrp
  · cases hopc

@[simp] theorem lawfulEvent_pinLow (x : PinResult P) : lawfulEvent p (.pinLow x : Event B P) := trivial

@[simp] theorem lawfulEvent_pinHigh (x : PinResult P) : lawfulEvent p (.pinHigh x : Event B P) := trivial

theorem length_of_ok_eq_ok {n : Nat} {rx : List Byte} (hl : rx.length = n) :
    ∀ ry, (BusResult.ok rx : BusResult B) = .ok ry → ry.length = n :=
  fun _ e => BusResult.ok.inj e ▸ hl

theorem length_of_err_eq_ok {n : Nat} {b : B} : ∀ rx, BusResult.err b = .ok rx → rx.length = n := nofun

/-- The command of an admitted operation is lawful, with any outcome that receives as many bytes as it sends. -/
theorem lawfulEvent_command {opc : Word16} {x : BusResult B} (hopc : admittedOpcode p i = some opc)
    (hx : ∀ rx, x = .ok rx → rx.length = 4) : lawfulEvent p (commandEvent opc x : Event B P) :=
  ⟨.inl ⟨opc, transmittable_of_admitted hopc, rfl⟩, hx⟩

theorem lawfulEvent_readTx {x : BusResult B} (hx : ∀ rx, x = .ok rx → rx.length = 8) :
    lawfulEvent p (.xfer readTx x : Event B P) :=
  ⟨.inr (.inl rfl), hx⟩

@[simp] theorem lawfulEvent_device (f : ResponseFrame) : lawfulEvent p (deviceEvent f : Event B P) :=
  lawfulEvent_readTx (length_of_ok_eq_ok (responseBytes_length f))

theorem lawfulEvent_sample {x : BusResult B} (hx : ∀ rx, x = .ok rx → rx.length = 1) :
    lawfulEvent p (.xfer [allOnes] x : Event B P) :=
  ⟨.inr (.inr rfl), hx⟩

/-- The calls of a row are lawful. -/
theorem TransferPath.lawful (path : TransferPath p g l h i calls r line phase) : ∀ e ∈ calls, lawfulEvent p e := by
  cases path with
  | assertFails => simp
  | commandFails _ _ _ _ hopc => simp [lawfulEvent_command hopc length_of_err_eq_ok]
  | startReleases _ _ _ _ _ _ hopc _ hl | startHolds _ _ _ _ _ hopc _ hl =>
    simp [lawfulEvent_command hopc (length_of_ok_eq_ok hl)]
  | deviceFails _ _ _ _ _ _ hopc hl =>
    simp [lawfulEvent_command hopc (length_of_ok_eq_ok hl), lawfulEvent_readTx length_of_err_eq_ok, or_imp, forall_and]
  | deviceMismatches _ _ _ _ _ _ hopc hl | readReturns _ _ _ _ _ hopc hl =>
    simp [lawfulEvent_command hopc (length_of_ok_eq_ok hl), or_imp, forall_and]
  | sampleFails => simp [lawfulEvent_sample length_of_err_eq_ok]
  | sampleIdle | sampleBusy => simp [lawfulEvent_sample (length_of_ok_eq_ok List.length_singleton)]

end PathTable

theorem OperationPath.lawful {s : State B P} {i calls r line phase} (path : OperationPath s i calls r line phase) :
    ∀ e ∈ calls, lawfulEvent s.params e := by
  cases path with
  | pure => exact fun _ made => nomatch made
  | transfer path _ => exact path.lawful

theorem OperationPath.line_eq {s : State B P} {i calls r line phase} (path : OperationPath s i calls r line phase) :
    line = lineAfterTrace s.csLine calls := by
  cases path with
  | pure => rfl
  | transfer path _ => exact path.line_eq

theorem OperationPath.lineSettled {s : State B P} {i calls r line phase}
    (path : OperationPath s i calls r line phase) : LineSettled s.strategy s.csLine s.phase calls line phase := by
  cases path with
  | pure => exact .untouched rfl
  | transfer path _ => exact path.lineSettled

/-- Whatever a request leaves keeps the invariant. -/
theorem Answers.inv {s t : State B P} {o : Option Instr} (h : Answers s o t) (inv : s.Inv) : t.Inv := by
  cases h with
  | refuses _ why => exact refuse_inv inv why
  | switches _ => exact switch_inv inv
  | responds path hc fit => exact hc.inv inv fit path.lawful path.line_eq path.lineSettled

/-- Settles O3: whatever a request leaves keeps the invariant, and a step with nothing pending changes nothing. -/
theorem stepKeepsInvariant : Obligations.StepKeepsInvariant := by
  unfold Obligations.StepKeepsInvariant
  intro s t inv h
  obtain rfl | ⟨_, answer⟩ := step_cases h
  · exact inv
  · exact answer.inv (inv.withQueues _ _ _)

/-! ### What no operation reads (R30, R35) -/

/-- Two states agree in every field, except that the line and the phase need agree only where `line` holds, OUT only
where `results` holds, and the other transient registers only where `buffers` holds. -/
structure State.Agree (line buffers results : Prop) (s s' : State B P) : Prop where
  params : s'.params = s.params
  strategy : s'.strategy = s.strategy
  trace : s'.trace = s.trace
  refused : s'.refused = s.refused
  requestIndex : s'.requestIndex = s.requestIndex
  requests : s'.requests = s.requests
  responses : s'.responses = s.responses
  refusals : s'.refusals = s.refusals
  pinDraws : s'.pinDraws = s.pinDraws
  busDraws : s'.busDraws = s.busDraws
  csLine : line → s'.csLine = s.csLine
  phase : line → s'.phase = s.phase
  acc : buffers → s'.acc = s.acc
  cmd : buffers → s'.cmd = s.cmd
  rsp : buffers → s'.rsp = s.rsp
  idx : buffers → s'.idx = s.idx
  out : results → s'.out = s.out

section Agreement

variable {line buffers results : Prop} {s s' : State B P}

theorem State.Agree.forgetResults (h : s.Agree line buffers True s') : s.Agree line buffers results s' :=
  { h with out := fun _ => h.out trivial }

/-! #### Each operation of the state keeps agreement, and the draws are the same -/

theorem State.Agree.pinDraw (h : s.Agree line buffers results s') : s'.pinDraw = s.pinDraw :=
  State.pinDraw_congr h.pinDraws (congrArg _ h.trace)

theorem State.Agree.busDraw (h : s.Agree line buffers results s') (n : Nat) : s'.busDraw n = s.busDraw n :=
  State.busDraw_congr n h.busDraws (congrArg _ h.trace)

theorem State.Agree.pinSetLow (h : s.Agree line buffers results s') :
    s.pinSetLow.Agree line buffers results s'.pinSetLow :=
  { h with
    trace := by simp [h.trace, h.pinDraw]
    pinDraws := by simp [h.pinDraws]
    csLine := fun _ => by simp [h.pinDraw] }

theorem State.Agree.release (h : s.Agree line buffers results s') : s.release.Agree line buffers results s'.release :=
  { h with
    trace := by simp [h.trace, h.pinDraw]
    pinDraws := by simp [h.pinDraws]
    csLine := fun _ => by simp [h.pinDraw]
    phase := fun _ => rfl }

theorem State.Agree.busTransfer (h : s.Agree line buffers results s') (tx : List Byte) :
    (s.busTransfer tx).Agree line buffers results (s'.busTransfer tx) :=
  { h with
    trace := by simp [h.trace, h.busDraw]
    busDraws := by simp [h.busDraws] }

theorem State.Agree.setPhase (h : s.Agree line buffers results s') (m : MachineState) :
    (s.setPhase m).Agree line buffers results (s'.setPhase m) :=
  { h with phase := fun _ => rfl }

theorem State.Agree.setStrategy (h : s.Agree line buffers results s') (g : Strategy) :
    (s.setStrategy g).Agree line buffers results (s'.setStrategy g) :=
  { h with strategy := rfl }

theorem State.Agree.runCalc (h : s.Agree line buffers results s') (d : List Byte) :
    (s.runCalc d).Agree line buffers results (s'.runCalc d) :=
  { h with acc := fun _ => rfl }

theorem State.Agree.runFrame (h : s.Agree line buffers results s') (opc : Word16) :
    (s.runFrame opc).Agree line buffers results (s'.runFrame opc) :=
  { h with
    acc := fun _ => rfl
    cmd := fun _ => rfl }

theorem State.Agree.setRsp (h : s.Agree line buffers results s') (r : ResponseFrame) :
    (s.setRsp r).Agree line buffers results (s'.setRsp r) :=
  { h with rsp := fun _ => rfl }

/-- A read writes OUT before it reads it. -/
theorem State.Agree.clearOut (h : s.Agree line buffers results s') : s.clearOut.Agree line buffers True s'.clearOut :=
  { h with
    idx := fun _ => rfl
    out := fun _ => rfl }

theorem State.Agree.storeOut (h : s.Agree line buffers results s') (v : Triple) :
    (s.storeOut v).Agree line buffers results (s'.storeOut v) :=
  { h with
    idx := fun keep => congrArg (· + 1) (h.idx keep)
    out := fun keep => congrArg (· ++ [v]) (h.out keep) }

theorem State.Agree.respond (h : s.Agree line buffers results s') (r : Response B P) :
    (s.respond r).Agree line buffers results (s'.respond r) :=
  { h with
    requestIndex := congrArg (· + 1) h.requestIndex
    responses := congrArg (· ++ [r]) h.responses }

theorem State.Agree.refuse (h : s.Agree line buffers results s') (why : RefuseReason) :
    (s.refuse why).Agree line buffers results (s'.refuse why) :=
  { h with
    refused := rfl
    requestIndex := congrArg (· + 1) h.requestIndex
    refusals := congrArg (· ++ [why]) h.refusals }

/-- The free values an operation leaves depend on the request index and on L. -/
theorem State.Agree.abandonBuffers (h : s.Agree line buffers results s') :
    s.abandonBuffers.Agree line buffers True s'.abandonBuffers :=
  { h with
    acc := fun _ => by simp [State.abandonBuffers, h.requestIndex]
    cmd := fun _ => by simp [State.abandonBuffers, h.requestIndex]
    rsp := fun _ => by simp [State.abandonBuffers, h.requestIndex]
    idx := fun _ => by simp [h.requestIndex, h.params]
    out := fun _ => by simp [h.requestIndex, h.params] }

theorem State.Agree.conclude (h : s.Agree line buffers results s') (r : Response B P) :
    (s.conclude r).Agree line buffers True (s'.conclude r) :=
  h.abandonBuffers.respond r

theorem State.Agree.fail (h : s.Agree line buffers results s') (e : Error B P) :
    (s.fail e).Agree line buffers True (s'.fail e) :=
  h.release.conclude (.err e)

theorem State.releaseAndReturn_eq (s : State B P) (v : Value) :
    s.releaseAndReturn v = s.release.conclude (releaseResponse v s.pinDraw) := by
  unfold State.releaseAndReturn
  cases s.pinDraw <;> rfl

theorem State.Agree.releaseAndReturn (h : s.Agree line buffers results s') (v : Value) :
    (s.releaseAndReturn v).Agree line buffers True (s'.releaseAndReturn v) := by
  rw [State.releaseAndReturn_eq, State.releaseAndReturn_eq, h.pinDraw]
  exact h.release.conclude _

/-! #### Agreement through the parts of an operation -/

/-- Two parts of operations go on from states that agree as far as `results` says of OUT, or both have ended in states
that agree, OUT included. -/
def Flow.Agree (line buffers results : Prop) : Flow B P → Flow B P → Prop
  | .running s, .running s' => s.Agree line buffers results s'
  | .ended t, .ended t' => t.Agree line buffers True t'
  | _, _ => False

theorem Flow.Agree.andThen {f f' : Flow B P} {k k' : State B P → State B P} (h : f.Agree line buffers results f')
    (hk : ∀ u u', u.Agree line buffers results u' → (k u).Agree line buffers True (k' u')) :
    (f.andThen k).Agree line buffers True (f'.andThen k') := by
  cases f with
  | running u =>
    cases f' with
    | running u' => exact hk u u' h
    | ended t' => exact h.elim
  | ended t =>
    cases f' with
    | running u' => exact h.elim
    | ended t' => exact h

theorem State.Agree.assertAndSend (h : s.Agree line buffers results s') (opc : Word16) :
    (s.assertAndSend opc).Agree line buffers results (s'.assertAndSend opc) := by
  have framed := h.pinSetLow.runFrame opc
  have sent := framed.busTransfer (commandBytes (frame opc))
  unfold State.assertAndSend
  simp only [h.pinDraw, framed.busDraw, State.runFrame_cmd]
  cases s.pinDraw with
  | err p => exact h.pinSetLow.fail (.chipSelectFailure p)
  | ok =>
    cases (s.pinSetLow.runFrame opc).busDraw 4 with
    | err b => exact sent.fail (.transferFailure b)
    | ok rx => exact sent

theorem State.Agree.readDevices (n : Nat) : ∀ {s s' : State B P}, s.Agree line buffers results s' →
    (s.readDevices n).Agree line buffers results (s'.readDevices n) := by
  induction n with
  | zero => exact fun h => h
  | succ n ih =>
    intro s s' h
    have transferred := h.busTransfer readTx
    unfold State.readDevices
    simp only [h.busDraw, State.setRsp_rsp]
    cases s.busDraw 8 with
    | err b => exact transferred.fail (.transferFailure b)
    | ok rx =>
      have checked := (transferred.setRsp (responseFrameOf rx)).runCalc (payload (responseFrameOf rx))
      cases hv : validate (responseFrameOf rx) with
      | none =>
        simp only [hv]
        exact checked.fail .checksumMismatch
      | some v =>
        simp only [hv]
        exact ih (checked.storeOut v)

theorem State.Agree.concludeStart (h : s.Agree line buffers results s') :
    s.concludeStart.Agree line buffers True s'.concludeStart := by
  unfold State.concludeStart
  rw [h.strategy]
  cases s.strategy with
  | releaseImmediately => exact h.releaseAndReturn .unit
  | lineHold => exact (h.setPhase _).conclude (.ok .unit)

theorem State.Agree.startConversion (h : s.Agree line buffers results s') (md : BitVec 2) (dcp : Bool) (ch : BitVec 3) :
    (s.startConversion md dcp ch).Agree line buffers True (s'.startConversion md dcp ch) := by
  unfold State.startConversion
  rw [h.params]
  exact (h.assertAndSend _).andThen fun _ _ sent => sent.concludeStart

theorem State.Agree.concludeRead (h : s.Agree line buffers True s') :
    s.concludeRead.Agree line buffers True s'.concludeRead := by
  unfold State.concludeRead
  rw [h.out trivial]
  exact h.releaseAndReturn _

theorem State.Agree.readRegisterGroup (h : s.Agree line buffers results s') (g : RegisterGroup) :
    (s.readRegisterGroup g).Agree line buffers True (s'.readRegisterGroup g) := by
  unfold State.readRegisterGroup
  rw [h.params]
  refine (h.assertAndSend _).andThen fun u u' sent => ?_
  rw [sent.params]
  exact (State.Agree.readDevices _ sent.clearOut).andThen fun _ _ read => read.concludeRead

theorem State.Agree.pollConversionDone (h : s.Agree line buffers results s') :
    s.pollConversionDone.Agree line buffers True s'.pollConversionDone := by
  have sampled := h.busTransfer [allOnes]
  unfold State.pollConversionDone
  rw [h.busDraw]
  cases s.busDraw 1 with
  | err b => exact sampled.fail (.transferFailure b)
  | ok rx =>
    by_cases idle : rx = [allOnes]
    · simp only [idle, ↓reduceIte]
      exact sampled.releaseAndReturn (.done true)
    · simp only [idle, ↓reduceIte]
      exact sampled.conclude (.ok (.done false))

end Agreement

/-- No operation reads a field in which states that agree may differ. -/
theorem exec_agree {line buffers results : Prop} {s s' t : State} {i : Instr} (h : s.Agree line buffers results s')
    (ht : exec i s = .next t) : ∃ t', exec i s' = .next t' ∧ t.Agree line buffers results t' := by
  cases i with
  | calcPec d =>
    cases ht
    exact ⟨_, rfl, ((h.runCalc d).conclude (.ok _)).forgetResults⟩
  | frame opc =>
    cases ht
    exact ⟨_, rfl, ((h.runFrame opc).conclude (.ok _)).forgetResults⟩
  | validate r =>
    cases ht
    exact ⟨_, rfl, ((h.runCalc (payload r)).conclude _).forgetResults⟩
  | startconv md dcp ch =>
    cases ht
    refine ⟨_, rfl, ?_⟩
    rw [h.params]
    cases supportsCh s.params ch with
    | true => exact (h.startConversion md dcp ch).forgetResults
    | false => exact h.refuse _
  | read reg =>
    cases ht
    refine ⟨_, rfl, ?_⟩
    rw [h.params]
    cases admittedGroup s.params reg with
    | some g => exact (h.readRegisterGroup g).forgetResults
    | none => exact h.refuse _
  | poll =>
    cases ht
    refine ⟨_, rfl, ?_⟩
    rw [h.strategy]
    cases s.strategy with
    | lineHold => exact h.pollConversionDone.forgetResults
    | releaseImmediately => exact h.refuse _
  | switch target =>
    cases ht
    refine ⟨_, rfl, ?_⟩
    rw [h.strategy]
    cases switchAdmitted s.strategy target with
    | true => exact (h.setStrategy target).respond (.ok .unit)
    | false => exact h.refuse _

theorem State.agree_withLine (s : State B P) (l : Line) (h : Phase) :
    s.Agree False True True { s with csLine := l, phase := h } := by
  constructor <;> simp

theorem State.agree_withBuffers (s : State B P) (a : Word16) (c : CommandFrame) (r : ResponseFrame) (o : List Triple)
    (x : Nat) : s.Agree True False False { s with acc := a, cmd := c, rsp := r, out := o, idx := x } := by
  constructor <;> simp

theorem State.Agree.eq_of_ignoringLine {s s' : State B P} (h : s.Agree False True True s') :
    s' = { s with csLine := s'.csLine, phase := s'.phase } := by
  cases s'
  cases h
  simp_all

theorem State.Agree.eq_of_ignoringBuffers {s s' : State B P} (h : s.Agree True False False s') :
    s' = { s with acc := s'.acc, cmd := s'.cmd, rsp := s'.rsp, out := s'.out, idx := s'.idx } := by
  cases s'
  cases h
  simp_all

/-- Settles O39: states that agree but for line and phase stay so through every operation. -/
theorem lineAndPhaseDecideNothing : Obligations.LineAndPhaseDecideNothing := by
  unfold Obligations.LineAndPhaseDecideNothing
  intro i s t l h ht
  obtain ⟨t', ht', agree⟩ := exec_agree (s.agree_withLine l h) ht
  exact ⟨t', ht', agree.eq_of_ignoringLine⟩

/-- Settles O40: states that agree but for the transient registers stay so through every operation. -/
theorem transientsDecideNothing : Obligations.TransientsDecideNothing := by
  unfold Obligations.TransientsDecideNothing
  intro i s t a c r o x ht
  obtain ⟨t', ht', agree⟩ := exec_agree (s.agree_withBuffers a c r o x) ht
  exact ⟨t', ht', agree.eq_of_ignoringBuffers⟩

end Sys2Proof.Machine
end

section
/-! The calls of one request (20_memory.md R68): transfers between at most one assert and at most one release, and what
the bytes received during a command can change. -/

namespace Sys2Proof.Machine

open Sys2Proof

variable {B P : Type}

/-! ### The calls of one request stand in brackets (42_transfer.md R170, R172) -/

/-- At most one PinSetLow, then `xs`, then at most one PinSetHigh. -/
def bracketed (low : Option (PinResult P)) (xs : List (Event B P)) (high : Option (PinResult P)) : List (Event B P) :=
  (low.map .pinLow).toList ++ xs ++ (high.map .pinHigh).toList

/-- The calls are at most `n` transfers, between at most one PinSetLow and at most one PinSetHigh. -/
def BracketedTransfers (n : Nat) (calls : List (Event B P)) : Prop :=
  ∃ low xs high, calls = bracketed low xs high ∧ (∀ e ∈ xs, e.isPin = false) ∧ xs.length ≤ n

theorem bracketedTransfers_nil (n : Nat) : BracketedTransfers n ([] : List (Event B P)) :=
  ⟨none, [], none, rfl, by simp, by simp⟩

@[simp] theorem isPin_commandEvent (opc : Word16) (r : BusResult B) :
    (commandEvent opc r : Event B P).isPin = false := rfl

@[simp] theorem isPin_deviceEvent (f : ResponseFrame) : (deviceEvent f : Event B P).isPin = false := rfl

@[simp] theorem isPin_xfer (tx : List Byte) (r : BusResult B) : (.xfer tx r : Event B P).isPin = false := rfl

/-- A row makes the command's transfer and at most one for each device, or the one of a sample. -/
theorem TransferPath.bracketedTransfers {p : Params} {g : Strategy} {l line : Line} {h phase : Phase} {i : Instr}
    {calls : List (Event B P)} {r : Response B P} (path : TransferPath p g l h i calls r line phase) :
    BracketedTransfers (p.chainLength + 1) calls := by
  cases path with
  | assertFails _ _ c x => exact ⟨some (.err c), [], some x, rfl, by simp, by simp⟩
  | commandFails _ opc b x => exact ⟨some .ok, [commandEvent opc (.err b)], some x, rfl, by simp, by simp⟩
  | startReleases _ _ _ opc rx x => exact ⟨some .ok, [commandEvent opc (.ok rx)], some x, rfl, by simp, by simp⟩
  | startHolds _ _ _ opc rx => exact ⟨some .ok, [commandEvent opc (.ok rx)], none, rfl, by simp, by simp⟩
  | deviceFails _ opc rx fs b x _ _ hn =>
    exact ⟨some .ok, commandEvent opc (.ok rx) :: (fs.map deviceEvent ++ [.xfer readTx (.err b)]), some x,
      by simp [bracketed], by simp [or_imp, forall_and], by simpa using hn⟩
  | deviceMismatches _ opc rx fs bad x _ _ hn =>
    exact ⟨some .ok, commandEvent opc (.ok rx) :: (fs.map deviceEvent ++ [deviceEvent bad]), some x,
      by simp [bracketed], by simp [or_imp, forall_and], by simpa using hn⟩
  | readReturns _ opc rx fs x _ _ hn =>
    exact ⟨some .ok, commandEvent opc (.ok rx) :: fs.map deviceEvent, some x,
      by simp [bracketed], by simp, by simp [hn]⟩
  | sampleFails b x => exact ⟨none, [.xfer [allOnes] (.err b)], some x, rfl, by simp, by simp⟩
  | sampleIdle x => exact ⟨none, [.xfer [allOnes] (.ok [allOnes])], some x, rfl, by simp, by simp⟩
  | sampleBusy b => exact ⟨none, [.xfer [allOnes] (.ok [b])], none, rfl, by simp, by simp⟩

theorem OperationPath.bracketedTransfers {s : State B P} {i calls r line phase}
    (path : OperationPath s i calls r line phase) : BracketedTransfers (s.params.chainLength + 1) calls := by
  cases path with
  | pure => exact bracketedTransfers_nil _
  | transfer path _ => exact path.bracketedTransfers

/-- Whatever a request leaves, its calls stand in brackets; a refusal and a switch make none. -/
theorem Answers.bracketedTransfers {s t : State B P} {o : Option Instr} (h : Answers s o t) :
    ∃ calls, t.trace = s.trace ++ calls ∧ BracketedTransfers (s.params.chainLength + 1) calls := by
  cases h with
  | refuses _ _ => exact ⟨[], (List.append_nil _).symm, bracketedTransfers_nil _⟩
  | switches _ => exact ⟨[], (List.append_nil _).symm, bracketedTransfers_nil _⟩
  | responds path hc _ => exact ⟨_, hc.trace, path.bracketedTransfers⟩

section Brackets

variable {low high : Option (PinResult P)} {xs : List (Event B P)}

/-- What stands nowhere in the front of a list stands behind it. -/
theorem le_of_getElem?_append {α : Type} {front back : List α} {e : α} {n : Nat}
    (h : (front ++ back)[n]? = some e) (he : e ∉ front) : front.length ≤ n := by
  by_contra hn
  exact he (List.mem_of_getElem? ((List.getElem?_append_left (Nat.lt_of_not_le hn)).symm.trans h))

/-- What stands nowhere in the back of a list stands before it. -/
theorem lt_of_getElem?_append {α : Type} {front back : List α} {e : α} {n : Nat}
    (h : (front ++ back)[n]? = some e) (he : e ∉ back) : n < front.length := by
  by_contra hn
  exact he (List.mem_of_getElem? ((List.getElem?_append_right (Nat.le_of_not_lt hn)).symm.trans h))

/-- Among transfers there is no pin call. -/
theorem not_mem_of_isPin (hxs : ∀ e ∈ xs, e.isPin = false) {e : Event B P} (he : e.isPin = true) : e ∉ xs :=
  fun made => Bool.false_ne_true ((hxs e made).symm.trans he)

theorem length_map_toList_le {α β : Type} (o : Option α) (f : α → β) : (o.map f).toList.length ≤ 1 := by
  cases o <;> simp

/-- A PinSetHigh stands only after the transfers, where there is room for one. -/
theorem bracketed_pinHigh_last (hxs : ∀ e ∈ xs, e.isPin = false) {n : Nat} {x : PinResult P}
    (h : (bracketed low xs high)[n]? = some (.pinHigh x)) : n + 1 = (bracketed low xs high).length := by
  have after := le_of_getElem?_append h (by simp [not_mem_of_isPin hxs (e := .pinHigh x) rfl])
  have within : n < (bracketed low xs high).length := (List.getElem?_eq_some_iff.mp h).1
  have room := length_map_toList_le high (Event.pinHigh (B := B))
  simp only [bracketed, List.length_append] at after within ⊢
  omega

/-- A PinSetLow stands only before the transfers, where there is room for one. -/
theorem bracketed_pinLow_first (hxs : ∀ e ∈ xs, e.isPin = false) {n : Nat} {x : PinResult P}
    (h : (bracketed low xs high)[n]? = some (.pinLow x)) : n = 0 := by
  rw [bracketed, List.append_assoc] at h
  have before := lt_of_getElem?_append h (by simp [not_mem_of_isPin hxs (e := .pinLow x) rfl])
  have room := length_map_toList_le low (Event.pinLow (B := B))
  omega

/-- The calls that are no pin calls are the transfers. -/
theorem bracketed_countP (hxs : ∀ e ∈ xs, e.isPin = false) :
    (bracketed low xs high).countP (fun e => !e.isPin) = xs.length := by
  have all : xs.countP (fun e => !e.isPin) = xs.length :=
    List.countP_eq_length.mpr fun e made => by simp [hxs e made]
  have noLow : (low.map .pinLow).toList.countP (fun e : Event B P => !e.isPin) = 0 := by cases low <;> rfl
  have noHigh : (high.map .pinHigh).toList.countP (fun e : Event B P => !e.isPin) = 0 := by cases high <;> rfl
  simp only [bracketed, List.countP_append, all, noLow, noHigh, Nat.zero_add, Nat.add_zero]

end Brackets

/-- Settles O38: the calls of every path are transfers in brackets. -/
theorem atMostOneReleasePerRequest : Obligations.AtMostOneReleasePerRequest := by
  unfold Obligations.AtMostOneReleasePerRequest
  intro i s t h
  obtain ⟨calls, trace, low, xs, high, rfl, transfers, few⟩ := (exec_answers h).bracketedTransfers
  exact ⟨_, trace, fun _ _ => bracketed_pinHigh_last transfers, fun _ _ => bracketed_pinLow_first transfers,
    (bracketed_countP transfers).trans_le few⟩

/-! ### The bytes received during a command (20_memory.md R68) -/

/-- `s'` is `s`, except that its trace shows `b` where that of `s` shows `a`, at place `k`. -/
structure State.DiffersAt (k : Nat) (a b : Event B P) (s s' : State B P) : Prop where
  shows : s.trace[k]? = some a
  eq : s' = { s with trace := s.trace.set k b }

section DiffersAt

variable {k : Nat} {a b : Event B P} {s s' : State B P}

/-! #### The next draws depend on how many calls were made, not on which -/

theorem State.DiffersAt.pinDraw (h : s.DiffersAt k a b s') : s'.pinDraw = s.pinDraw := by
  rw [h.eq]
  exact State.pinDraw_congr rfl List.length_set

theorem State.DiffersAt.busDraw (h : s.DiffersAt k a b s') (n : Nat) : s'.busDraw n = s.busDraw n := by
  rw [h.eq]
  exact State.busDraw_congr n rfl List.length_set

/-! #### What goes on from two such states keeps them so -/

/-- Calls that are added to both traces leave the one difference where it is. -/
theorem State.DiffersAt.extend (h : s.DiffersAt k a b s') {u : State B P} {es : List (Event B P)}
    (hu : u.trace = s.trace ++ es) : u.DiffersAt k a b { u with trace := s'.trace ++ es } := by
  obtain ⟨hk, -⟩ := List.getElem?_eq_some_iff.mp h.shows
  constructor
  · rw [hu, List.getElem?_append_left hk, h.shows]
  · rw [h.eq, hu, List.set_append_left _ _ hk]

/-- An operation that neither reads nor writes the trace. -/
theorem State.DiffersAt.map (h : s.DiffersAt k a b s') (f : State B P → State B P)
    (hf : ∀ past, f { s with trace := past } = { f s with trace := past }) : (f s).DiffersAt k a b (f s') := by
  have same : (f s).trace = s.trace := congrArg (fun u => u.trace) (hf s.trace)
  constructor
  · rw [same, h.shows]
  · rw [same, h.eq, hf]

theorem State.DiffersAt.release (h : s.DiffersAt k a b s') : s.release.DiffersAt k a b s'.release := by
  have released := h.extend (State.release_trace s)
  have draw := h.pinDraw
  obtain ⟨-, rfl⟩ := h
  simpa only [State.release, State.setPhase, State.pinSetHigh, draw] using released

theorem State.DiffersAt.busTransfer (h : s.DiffersAt k a b s') (tx : List Byte) :
    (s.busTransfer tx).DiffersAt k a b (s'.busTransfer tx) := by
  have transferred := h.extend (State.busTransfer_trace s tx)
  have draw := h.busDraw tx.length
  obtain ⟨-, rfl⟩ := h
  simpa only [State.busTransfer, draw] using transferred

theorem State.DiffersAt.conclude (h : s.DiffersAt k a b s') (r : Response B P) :
    (s.conclude r).DiffersAt k a b (s'.conclude r) :=
  h.map (State.conclude r) fun _ => rfl

theorem State.DiffersAt.fail (h : s.DiffersAt k a b s') (e : Error B P) : (s.fail e).DiffersAt k a b (s'.fail e) :=
  h.release.conclude (.err e)

theorem State.DiffersAt.releaseAndReturn (h : s.DiffersAt k a b s') (v : Value) :
    (s.releaseAndReturn v).DiffersAt k a b (s'.releaseAndReturn v) := by
  rw [State.releaseAndReturn_eq, State.releaseAndReturn_eq, h.pinDraw]
  exact h.release.conclude _

theorem State.DiffersAt.concludeStart (h : s.DiffersAt k a b s') :
    s.concludeStart.DiffersAt k a b s'.concludeStart := by
  have strategy : s'.strategy = s.strategy := by rw [h.eq]
  unfold State.concludeStart
  rw [strategy]
  cases s.strategy with
  | releaseImmediately => exact h.releaseAndReturn .unit
  | lineHold => exact (h.map (State.setPhase _) fun _ => rfl).conclude (.ok .unit)

theorem State.DiffersAt.concludeRead (h : s.DiffersAt k a b s') : s.concludeRead.DiffersAt k a b s'.concludeRead := by
  have out : s'.out = s.out := by rw [h.eq]
  unfold State.concludeRead
  rw [out]
  exact h.releaseAndReturn _

theorem State.DiffersAt.readDevices_concludeRead (n : Nat) : ∀ {s s' : State B P}, s.DiffersAt k a b s' →
    ((s.readDevices n).andThen State.concludeRead).DiffersAt k a b
      ((s'.readDevices n).andThen State.concludeRead) := by
  induction n with
  | zero => exact State.DiffersAt.concludeRead
  | succ n ih =>
    intro s s' h
    have transferred := h.busTransfer readTx
    unfold State.readDevices
    simp only [h.busDraw, State.setRsp_rsp]
    cases s.busDraw 8 with
    | err c => exact transferred.fail (.transferFailure c)
    | ok rx =>
      have checked := (transferred.map (State.setRsp (responseFrameOf rx)) fun _ => rfl).map
        (State.runCalc (payload (responseFrameOf rx))) fun _ => rfl
      cases hv : validate (responseFrameOf rx) with
      | none =>
        simp only [hv]
        exact checked.fail .checksumMismatch
      | some v =>
        simp only [hv]
        exact ih (checked.map (State.storeOut v) fun _ => rfl)

end DiffersAt

/-! #### The command -/

/-- What replacing the next transfer's reply by `ry` can do to what an operation begun in `s` leaves: it used no
transfer's draw and leaves the replaced one too, or its second call is a transfer, and shows other received bytes. -/
inductive ReplyDiscarded (s : State B P) (ry : List Byte) (bs : List (BusResult B)) :
    State B P → State B P → Prop where
  | unused {t : State B P} : t.busDraws = s.busDraws → ReplyDiscarded s ry bs t { t with busDraws := .ok ry :: bs }
  | recorded {t t' : State B P} (tx got got' : List Byte) :
      t.DiffersAt (s.trace.length + 1) (.xfer tx (.ok got)) (.xfer tx (.ok got')) t' → ReplyDiscarded s ry bs t t'

section Command

variable {s : State B P} {rx : List Byte} {bs : List (BusResult B)}

theorem State.busDraw_of_named (hb : s.busDraws = .ok rx :: bs) (n : Nat) :
    s.busDraw n = .ok (receivedBytes n s.trace.length rx) := by
  simp only [State.busDraw, hb, List.headD_cons, fitResult]

/-- A transfer with its reply replaced differs in the bytes recorded for it. -/
theorem busTransfer_differsAt (hb : s.busDraws = .ok rx :: bs) (ry tx : List Byte) :
    (s.busTransfer tx).DiffersAt s.trace.length (.xfer tx (.ok (receivedBytes tx.length s.trace.length rx)))
      (.xfer tx (.ok (receivedBytes tx.length s.trace.length ry)))
      (State.busTransfer tx { s with busDraws := .ok ry :: bs }) where
  shows := by simp [State.busDraw_of_named hb]
  eq := by
    have replaced : State.busDraw tx.length { s with busDraws := .ok ry :: bs } =
        .ok (receivedBytes tx.length s.trace.length ry) := State.busDraw_of_named rfl _
    simp [State.busTransfer, replaced, hb]

/-- Through a command, and on where the continuation keeps a difference in the trace. -/
theorem command_replyDiscarded (hb : s.busDraws = .ok rx :: bs) (ry : List Byte) (opc : Word16)
    {k : State B P → State B P} (hk : ∀ {n a b u u'}, u.DiffersAt n a b u' → (k u).DiffersAt n a b (k u')) :
    ReplyDiscarded s ry bs ((s.assertAndSend opc).andThen k)
      ((State.assertAndSend opc { s with busDraws := .ok ry :: bs }).andThen k) := by
  have assert : ({ s with busDraws := .ok ry :: bs } : State B P).pinDraw = s.pinDraw := rfl
  have sent := busTransfer_differsAt (s := s.pinSetLow.runFrame opc) hb ry (commandBytes (frame opc))
  have second : (s.pinSetLow.runFrame opc).trace.length = s.trace.length + 1 := by simp
  rw [second] at sent
  have draw := State.busDraw_of_named (s := s.pinSetLow.runFrame opc) hb 4
  have replaced : State.busDraw 4 (State.runFrame opc (State.pinSetLow { s with busDraws := .ok ry :: bs })) =
      .ok (receivedBytes 4 (s.pinSetLow.runFrame opc).trace.length ry) := State.busDraw_of_named rfl 4
  unfold State.assertAndSend
  rw [assert]
  cases s.pinDraw with
  | err c => exact .unused rfl
  | ok =>
    dsimp only
    rw [draw, replaced]
    exact .recorded _ _ _ (hk sent)

end Command

/-- Of the operations only POLL uses the bytes of its first transfer. -/
theorem exec_replyDiscarded {s t : State} {rx : List Byte} {bs : List (BusResult BusCause)} {i : Instr}
    (hi : i ≠ .poll) (hb : s.busDraws = .ok rx :: bs) (ry : List Byte) (ht : exec i s = .next t) :
    ∃ t', exec i { s with busDraws := .ok ry :: bs } = .next t' ∧ ReplyDiscarded s ry bs t t' := by
  cases i with
  | calcPec d =>
    cases ht
    exact ⟨_, rfl, .unused rfl⟩
  | frame opc =>
    cases ht
    exact ⟨_, rfl, .unused rfl⟩
  | validate r =>
    cases ht
    exact ⟨_, rfl, .unused rfl⟩
  | startconv md dcp ch =>
    cases ht
    refine ⟨_, rfl, ?_⟩
    dsimp only
    cases supportsCh s.params ch with
    | true => exact command_replyDiscarded hb ry _ fun sent => sent.concludeStart
    | false => exact .unused rfl
  | read reg =>
    cases ht
    refine ⟨_, rfl, ?_⟩
    dsimp only
    cases admittedGroup s.params reg with
    | some g =>
      refine command_replyDiscarded hb ry _ fun {_ _ _ u u'} sent => ?_
      have params : u'.params = u.params := by rw [sent.eq]
      rw [params]
      exact (sent.map State.clearOut fun _ => rfl).readDevices_concludeRead _
    | none => exact .unused rfl
  | poll => exact absurd rfl hi
  | switch target =>
    cases ht
    refine ⟨_, rfl, ?_⟩
    dsimp only
    cases switchAdmitted s.strategy target with
    | true => exact .unused rfl
    | false => exact .unused rfl

/-- Settles O41: an operation other than POLL uses no transfer, or goes on from states that differ in the record of
its command. -/
theorem commandReplyIsDiscarded : Obligations.CommandReplyIsDiscarded := by
  unfold Obligations.CommandReplyIsDiscarded
  intro i s t rx ry bs hi ht
  obtain ⟨t', ht', discarded⟩ := exec_replyDiscarded hi rfl ry ht
  obtain ⟨⟨calls, trace⟩, -⟩ := (exec_answers ht).trace_params
  refine ⟨t', calls, ?_⟩
  cases discarded with
  | unused draws =>
    exact ⟨calls, ht', rfl, .inr ⟨draws, rfl⟩, trace.symm, trace.symm, rfl, fun _ _ => rfl, .inl rfl⟩
  | recorded tx got got' differs =>
    obtain ⟨shows, rfl⟩ := differs
    have second : calls[1]? = some (.xfer tx (.ok got)) := by
      rw [← trace, List.getElem?_append_right (Nat.le_succ _)] at shows
      simpa using shows
    have trace' : t.trace.set (s.trace.length + 1) (.xfer tx (.ok got')) =
        s.trace ++ calls.set 1 (.xfer tx (.ok got')) := by
      rw [← trace, List.set_append_right _ _ (Nat.le_succ _)]
      simp
    refine ⟨calls.set 1 (.xfer tx (.ok got')), ht', rfl, .inl rfl, trace.symm, trace', List.length_set,
      fun n hn => List.getElem?_set_ne hn.symm, .inr ⟨tx, got, got', second, ?_⟩⟩
    obtain ⟨made, -⟩ := List.getElem?_eq_some_iff.mp second
    exact List.getElem?_set_self made

end Sys2Proof.Machine
end

section
/-! Encoding of host requests (30_encoding.md R100 to R112): decoding a request gives an instruction exactly when the
request carries that instruction's word and bytes, which is exactly when its word matches a row of the opcode table
and the declared bytes are there. -/

namespace Sys2Proof

/-! ### The fields of ARG (R102, R108) -/

theorem ofBool_getLsbD {w : Nat} (a : BitVec w) (i : Nat) : BitVec.ofBool (a.getLsbD i) = a.extractLsb' i 1 := by
  apply BitVec.eq_of_getLsbD_eq
  intro k hk
  obtain rfl := Nat.lt_one_iff.mp hk
  simp

/-- The fields of a STARTCONV argument. -/
theorem startconvArg_fields (md : BitVec 2) (dcp : Bool) (ch : BitVec 3) :
    (0#10 ++ md ++ BitVec.ofBool dcp ++ ch).extractLsb' 6 10 = 0#10 ∧
      (0#10 ++ md ++ BitVec.ofBool dcp ++ ch).extractLsb' 4 2 = md ∧
      (0#10 ++ md ++ BitVec.ofBool dcp ++ ch).getLsbD 3 = dcp ∧
      (0#10 ++ md ++ BitVec.ofBool dcp ++ ch).extractLsb' 0 3 = ch := by
  revert md dcp ch
  decide

/-- The fields of a READ argument. -/
theorem readArg_fields (reg : BitVec 5) :
    (0#11 ++ reg).extractLsb' 5 11 = 0#11 ∧ (0#11 ++ reg).extractLsb' 0 5 = reg := by
  revert reg
  decide

/-- The fields of a SWITCH argument. -/
theorem switchArg_fields (t : Strategy) :
    (0#15 ++ BitVec.ofBool (bitOfStrategy t)).extractLsb' 1 15 = 0#15 ∧
      strategyOfBit ((0#15 ++ BitVec.ofBool (bitOfStrategy t)).getLsbD 0) = t := by
  cases t <;> decide

@[simp] theorem bitOfStrategy_strategyOfBit (b : Bool) : bitOfStrategy (strategyOfBit b) = b := by
  cases b <;> rfl

/-- A STARTCONV argument is made of its fields. -/
theorem startconvArg_of_fields {a : Word16} (h : a.extractLsb' 6 10 = 0#10) :
    0#10 ++ a.extractLsb' 4 2 ++ BitVec.ofBool (a.getLsbD 3) ++ a.extractLsb' 0 3 = a := by
  rw [← h, ofBool_getLsbD,
    BitVec.extractLsb'_append_extractLsb'_eq_extractLsb' (start₂ := 6) (start₁ := 4) (len₁ := 2) rfl,
    BitVec.extractLsb'_append_extractLsb'_eq_extractLsb' (start₂ := 4) (start₁ := 3) (len₁ := 1) rfl]
  exact BitVec.extractLsb'_append_extractLsb'

/-- A READ argument is made of its fields. -/
theorem readArg_of_fields {a : Word16} (h : a.extractLsb' 5 11 = 0#11) : 0#11 ++ a.extractLsb' 0 5 = a := by
  rw [← h]
  exact BitVec.extractLsb'_append_extractLsb'

/-- A SWITCH argument is made of its fields. -/
theorem switchArg_of_fields {a : Word16} (h : a.extractLsb' 1 15 = 0#15) :
    0#15 ++ BitVec.ofBool (bitOfStrategy (strategyOfBit (a.getLsbD 0))) = a := by
  rw [bitOfStrategy_strategyOfBit, ← h, ofBool_getLsbD]
  exact BitVec.extractLsb'_append_extractLsb'

/-! ### The requests that carry an instruction -/

/-- The operand fits the count the word declares: a CALC operand has fewer than 2^16 bytes (R109). -/
def Instr.countFits : Instr → Prop
  | .calcPec d => d.length < 65536
  | _ => True

/-- A request carries `i`: its word is that of `i`, and the bytes of `i` come first on the data channel (R107). -/
structure Carries (q : HostRequest) (i : Instr) : Prop where
  countFits : i.countFits
  word : q.word = (encode i).word
  data : (encode i).data <+: q.data

theorem countFits_of_wellFormed {i : Instr} (h : i.wellFormed = true) : i.countFits := by
  cases i with
  | calcPec d => exact of_decide_eq_true (p := d.length < 65536) h
  | frame | validate | startconv | read | poll | switch => trivial

/-- The word of `i` declares as many bytes as `i` has. -/
theorem declaredBytes_encode {i : Instr} (h : i.countFits) :
    declaredBytes (encode i).word = (encode i).data.length := by
  cases i with
  | calcPec d =>
    have : d.length % 2 ^ 16 = d.length := Nat.mod_eq_of_lt h
    simpa [declaredBytes, encode] using this
  | frame | validate | startconv | read | poll | switch => simp [declaredBytes, encode]

theorem declaredBytes_of_carries {q : HostRequest} {i : Instr} (h : Carries q i) :
    declaredBytes q.word = (encode i).data.length := by
  rw [h.word, declaredBytes_encode h.countFits]

theorem carries_encode {i : Instr} (h : i.wellFormed = true) : Carries (encode i) i :=
  ⟨countFits_of_wellFormed h, rfl, List.prefix_rfl⟩

/-- A request that carries `i` is `i`'s encoding with more bytes after it, of which nothing is read. -/
theorem decode_of_carries {q : HostRequest} {i : Instr} (h : Carries q i) : decode q = .ok i := by
  obtain ⟨word, data⟩ := q
  obtain ⟨fits, rfl, rest, rfl⟩ := h
  cases i with
  | calcPec d =>
    have count : d.length % 65536 = d.length := Nat.mod_eq_of_lt fits
    simp [encode, decode, decodeCalc, count]
  | frame opc => simp [encode, decode, decodeFrame]
  | validate r => simp [encode, decode, decodeValidate, ResponseFrame.bytes]
  | startconv md dcp ch =>
    obtain ⟨reserved, hmd, hdcp, hch⟩ := startconvArg_fields md dcp ch
    simp only [encode, decode, decodeStartconv, opField_requestWord, argHigh_requestWord, argLow_requestWord, reserved,
      hmd, hdcp, hch]
    rfl
  | read reg => simp [encode, decode, decodeRead, readArg_fields]
  | poll => simp [encode, decode, decodePoll]
  | switch t =>
    obtain ⟨reserved, target⟩ := switchArg_fields t
    simp only [encode, decode, decodeSwitch, opField_requestWord, argHigh_requestWord, argLow_requestWord, reserved,
      target]
    rfl

/-! ### What each operation's decoder accepts -/

/-- A word whose reserved bits are zero, written with its OP. -/
theorem requestWord_of_op {w : HostWord} {op : Byte} {a : Word16} (hop : opField w = op) (high : ¬argHigh w ≠ 0#8)
    (ha : argLow w = a) : w = requestWord op a := by
  rw [← hop, ← ha]
  exact requestWord_of_fields w (not_not.mp high)

section Accepted

variable {q : HostRequest} {i : Instr}

theorem carries_of_decodeCalc (hop : opField q.word = 0x01#8) (h : decodeCalc q = .ok i) : Carries q i := by
  unfold decodeCalc at h
  split_ifs at h with high short
  cases h
  have count : (q.data.take (argLow q.word).toNat).length = (argLow q.word).toNat :=
    List.length_take_of_le (Nat.le_of_not_lt short)
  refine ⟨count.trans_lt (argLow q.word).isLt, requestWord_of_op hop high ?_, List.take_prefix _ _⟩
  rw [count, BitVec.ofNat_toNat, BitVec.setWidth_eq]

theorem carries_of_decodeFrame (hop : opField q.word = 0x02#8) (h : decodeFrame q = .ok i) : Carries q i := by
  unfold decodeFrame at h
  split_ifs at h with high
  cases h
  exact ⟨trivial, requestWord_of_op hop high rfl, List.nil_prefix⟩

theorem carries_of_decodeValidate (hop : opField q.word = 0x03#8) (h : decodeValidate q = .ok i) : Carries q i := by
  unfold decodeValidate at h
  split_ifs at h with reserved
  obtain ⟨high, low⟩ := not_or.mp reserved
  split at h
  · next rest hdata =>
    cases h
    exact ⟨trivial, requestWord_of_op hop high (not_not.mp low), rest, hdata.symm⟩
  · cases h

theorem carries_of_decodeStartconv (hop : opField q.word = 0x10#8) (h : decodeStartconv q = .ok i) : Carries q i := by
  unfold decodeStartconv at h
  split_ifs at h with reserved
  obtain ⟨high, low⟩ := not_or.mp reserved
  cases h
  exact ⟨trivial, requestWord_of_op hop high (startconvArg_of_fields (not_not.mp low)).symm, List.nil_prefix⟩

theorem carries_of_decodeRead (hop : opField q.word = 0x11#8) (h : decodeRead q = .ok i) : Carries q i := by
  unfold decodeRead at h
  split_ifs at h with reserved
  obtain ⟨high, low⟩ := not_or.mp reserved
  cases h
  exact ⟨trivial, requestWord_of_op hop high (readArg_of_fields (not_not.mp low)).symm, List.nil_prefix⟩

theorem carries_of_decodePoll (hop : opField q.word = 0x12#8) (h : decodePoll q = .ok i) : Carries q i := by
  unfold decodePoll at h
  split_ifs at h with reserved
  obtain ⟨high, low⟩ := not_or.mp reserved
  cases h
  exact ⟨trivial, requestWord_of_op hop high (not_not.mp low), List.nil_prefix⟩

theorem carries_of_decodeSwitch (hop : opField q.word = 0x20#8) (h : decodeSwitch q = .ok i) : Carries q i := by
  unfold decodeSwitch at h
  split_ifs at h with reserved
  obtain ⟨high, low⟩ := not_or.mp reserved
  cases h
  exact ⟨trivial, requestWord_of_op hop high (switchArg_of_fields (not_not.mp low)).symm, List.nil_prefix⟩

/-- The decoder accepts only requests that carry the decoded instruction. -/
theorem carries_of_decode (h : decode q = .ok i) : Carries q i := by
  unfold decode at h
  split_ifs at h with hCalc hFrame hValidate hStartconv hRead hPoll hSwitch
  · exact carries_of_decodeCalc hCalc h
  · exact carries_of_decodeFrame hFrame h
  · exact carries_of_decodeValidate hValidate h
  · exact carries_of_decodeStartconv hStartconv h
  · exact carries_of_decodeRead hRead h
  · exact carries_of_decodePoll hPoll h
  · exact carries_of_decodeSwitch hSwitch h

end Accepted

/-- Settles O8: a well-formed instruction is carried by its own encoding. -/
theorem decodeOfEncode : Obligations.DecodeOfEncode :=
  fun _ h => decode_of_carries (carries_encode h)

/-- Settles O9: a decoded request carries its instruction, whose word declares as many bytes as it has. -/
theorem decodedRequestReencodes : Obligations.DecodedRequestReencodes := by
  unfold Obligations.DecodedRequestReencodes
  intro q i h
  have carried := carries_of_decode h
  rw [declaredBytes_of_carries carried, carried.word, ← List.prefix_iff_eq_take.mp carried.data]

/-! ### The rows of the opcode table (R101, R102) -/

/-- The word of every instruction matches the row of that instruction. -/
theorem admits_encode (i : Instr) : (opcodeRow i).admits (encode i).word := by
  cases i with
  | calcPec d => exact Laws.TableRow.calcPec d
  | frame opc => exact Laws.TableRow.frame opc
  | validate r => exact Laws.TableRow.validate r
  | startconv md dcp ch => exact Laws.TableRow.startconv md dcp ch
  | read reg => exact Laws.TableRow.read reg
  | poll => exact Laws.TableRow.poll
  | switch t => exact Laws.TableRow.switch t

/-- The rows of the opcode table, one per operation. -/
def opcodeRows : List OpcodeRow :=
  [.calcPec [], .frame 0, .validate ⟨0, 0, 0, 0, 0, 0, 0, 0⟩, .startconv 0 false 0, .read 0, .poll,
    .switch .lineHold].map opcodeRow

theorem opcodeRow_mem (i : Instr) : opcodeRow i ∈ opcodeRows := by
  cases i <;> simp [opcodeRows, opcodeRow]

/-- No two rows share an OP, so a word matches at most one row. -/
theorem opcodeRow_unique {i j : Instr} {w : HostWord} (hi : (opcodeRow i).admits w) (hj : (opcodeRow j).admits w) :
    opcodeRow j = opcodeRow i := by
  have distinct : ∀ r ∈ opcodeRows, ∀ r' ∈ opcodeRows, opField r.value = opField r'.value → r = r' := by decide
  exact distinct _ (opcodeRow_mem j) _ (opcodeRow_mem i) ((opField_of_admits hj).symm.trans (opField_of_admits hi))

/-- Where the mask of a row is all ones, a matching word has the bits of an encoded word of that row. -/
theorem extract_of_admits {j : Instr} {w : HostWord} (h : (opcodeRow j).admits w) (lo n : Nat)
    (hm : (opcodeRow j).mask.extractLsb' lo n = BitVec.allOnes n) :
    w.extractLsb' lo n = (encode j).word.extractLsb' lo n :=
  (extract_of_mask h lo n hm).trans (extract_of_mask (admits_encode j) lo n hm).symm

theorem opField_eq_encode {j : Instr} {w : HostWord} (h : (opcodeRow j).admits w) :
    opField w = opField (encode j).word :=
  (opField_of_admits h).trans (opField_of_admits (admits_encode j)).symm

/-- No row leaves ARG[23:16] open. -/
theorem argHigh_of_admits {j : Instr} {w : HostWord} (h : (opcodeRow j).admits w) : argHigh w = 0#8 := by
  have high : argHigh w = argHigh (encode j).word := by
    unfold argHigh
    cases j <;> exact extract_of_admits h 16 8 (by simp only [opcodeRow]; decide)
  rw [high]
  cases j <;> exact argHigh_requestWord _ _

/-- A field of ARG[15:0] that the row's mask covers has the bits of an encoded word of that row. -/
theorem argLow_of_admits {j : Instr} {w : HostWord} (h : (opcodeRow j).admits w) (lo n : Nat)
    (hm : (opcodeRow j).mask.extractLsb' lo n = BitVec.allOnes n := by simp only [opcodeRow]; decide)
    (hn : lo + n ≤ 16 := by decide) :
    (argLow w).extractLsb' lo n = (argLow (encode j).word).extractLsb' lo n := by
  unfold argLow
  rw [BitVec.extractLsb'_extractLsb'_of_le hn, BitVec.extractLsb'_extractLsb'_of_le hn]
  exact extract_of_admits h _ n hm

/-- A request whose word matches a row is decoded when the declared bytes are there. -/
theorem exists_decode_of_admits {q : HostRequest} {j : Instr} (h : (opcodeRow j).admits q.word)
    (enough : declaredBytes q.word ≤ q.data.length) : ∃ i, decode q = .ok i := by
  have op := opField_eq_encode h
  have high := argHigh_of_admits h
  cases j
  all_goals simp only [encode, opField_requestWord] at op
  case calcPec =>
    have count : ¬q.data.length < (argLow q.word).toNat := by simpa [declaredBytes, op] using enough
    simp [decode, op, decodeCalc, high, count]
  case frame =>
    simp [decode, op, decodeFrame, high]
  case validate =>
    have low : argLow q.word = 0#16 := by
      simpa only [encode, argLow_requestWord, BitVec.extractLsb'_eq_self] using argLow_of_admits h 0 16
    obtain ⟨r, rest, hdata⟩ : ∃ r rest, q.data = ResponseFrame.bytes r ++ rest := by
      have first : (q.data.take 8).length = 8 := List.length_take_of_le (by simpa [declaredBytes, op] using enough)
      exact ⟨_, q.data.drop 8, by rw [Machine.bytes_responseFrameOf first, List.take_append_drop]⟩
    simp [decode, op, decodeValidate, high, low, hdata, ResponseFrame.bytes]
  case startconv =>
    have low : (argLow q.word).extractLsb' 6 10 = 0#10 := by
      simpa only [encode, argLow_requestWord, startconvArg_fields] using argLow_of_admits h 6 10
    simp [decode, op, decodeStartconv, high, low]
  case read =>
    have low : (argLow q.word).extractLsb' 5 11 = 0#11 := by
      simpa only [encode, argLow_requestWord, readArg_fields] using argLow_of_admits h 5 11
    simp [decode, op, decodeRead, high, low]
  case poll =>
    have low : argLow q.word = 0#16 := by
      simpa only [encode, argLow_requestWord, BitVec.extractLsb'_eq_self] using argLow_of_admits h 0 16
    simp [decode, op, decodePoll, high, low]
  case switch =>
    have low : (argLow q.word).extractLsb' 1 15 = 0#15 := by
      simpa only [encode, argLow_requestWord, switchArg_fields] using argLow_of_admits h 1 15
    simp [decode, op, decodeSwitch, high, low]

theorem admits_of_decode {q : HostRequest} {i : Instr} (h : decode q = .ok i) : (opcodeRow i).admits q.word := by
  rw [(carries_of_decode h).word]
  exact admits_encode i

/-- Settles O10: a decoded request carries an instruction, and a word matches at most one row. -/
theorem decodeSucceedsExactlyOnTableRows : Obligations.DecodeSucceedsExactlyOnTableRows := by
  unfold Obligations.DecodeSucceedsExactlyOnTableRows
  refine ⟨fun q => ⟨?rows, ?decodes⟩, fun q i j h => ⟨admits_of_decode h, opcodeRow_unique (admits_of_decode h)⟩⟩
  case rows =>
    rintro ⟨i, h⟩
    have carried := carries_of_decode h
    exact ⟨⟨i, admits_of_decode h⟩, (declaredBytes_of_carries carried).trans_le carried.data.length_le⟩
  case decodes =>
    rintro ⟨⟨j, h⟩, enough⟩
    exact exists_decode_of_admits h enough

/-- Settles O7, by running the decoder on the seven words. -/
theorem writtenOutWordsDecode : Obligations.WrittenOutWordsDecode := by
  unfold Obligations.WrittenOutWordsDecode
  decide

end Sys2Proof
end

section
/-! Frames and responses as bytes (30_encoding.md R92, R103, R104; 41_framing.md R157). -/

namespace Sys2Proof.Machine

open Sys2Proof

/-! ### Payload bytes and their values (R157) -/

theorem leBytes_le16 (a b : Byte) : leBytes (le16 a b) = [a, b] := by
  simp only [leBytes, loByte_le16, hiByte_le16]

/-- The bytes of three decoded values are the payload they were decoded from. -/
theorem tripleBytes_decodePayload (r : ResponseFrame) : tripleBytes (decodePayload r) = payload r := by
  simp only [tripleBytes, decodePayload, leBytes_le16]
  rfl

theorem decodePayload_frameOfTriple (t : Triple) : decodePayload (frameOfTriple t) = t := by
  show Triple.mk (le16 (loByte t.v0) (hiByte t.v0)) (le16 (loByte t.v1) (hiByte t.v1))
    (le16 (loByte t.v2) (hiByte t.v2)) = t
  simp only [le16_loByte_hiByte]

/-- The frame of three values carries the checksum of its payload. -/
theorem validFrame_frameOfTriple (t : Triple) : validFrame (frameOfTriple t) = true :=
  decide_eq_true rfl

/-- A valid frame is the frame of the values it carries. -/
theorem frameOfTriple_decodePayload {r : ResponseFrame} (h : validFrame r = true) :
    frameOfTriple (decodePayload r) = r := by
  have pec : [r.r6, r.r7] = calcPec (payload r) := of_decide_eq_true h
  calc frameOfTriple (decodePayload r)
      = responseFrameOf (tripleBytes (decodePayload r) ++ calcPec (tripleBytes (decodePayload r))) := rfl
    _ = responseFrameOf (payload r ++ [r.r6, r.r7]) := by rw [tripleBytes_decodePayload, pec]
    _ = r := rfl

/-- VALIDATE accepts a frame as `t` exactly when it is valid and decodes to `t` (41_framing.md R156). -/
theorem validate_eq_some_iff {r : ResponseFrame} {t : Triple} :
    validate r = some t ↔ validFrame r = true ∧ decodePayload r = t := by
  rw [validate_eq, Option.ite_none_right_eq_some, Option.some.injEq]

/-- Settles O23: the values of a frame are its payload, and the payload decides the checksum. -/
theorem framesRoundTrip : Obligations.FramesRoundTrip := by
  unfold Obligations.FramesRoundTrip
  refine ⟨fun t => validate_eq_some_iff.mpr ⟨validFrame_frameOfTriple t, decodePayload_frameOfTriple t⟩, ?_⟩
  intro r t h
  obtain ⟨valid, rfl⟩ := validate_eq_some_iff.mp h
  exact frameOfTriple_decodePayload valid

/-! ### Response bytes (R103, R104) -/

/-- Settles O49: the value bytes of a decoded frame are its payload. -/
theorem responseBytesCarryPayloads : Obligations.ResponseBytesCarryPayloads := by
  unfold Obligations.ResponseBytesCarryPayloads
  refine ⟨fun _ _ => rfl, fun _ => rfl, rfl, fun fs => ?readResponse, fun f => ?validateResponse, fun _ => rfl, rfl,
    fun _ => rfl, fun _ => rfl⟩
  case readResponse =>
    simp only [responseBytes, valueBytes, List.flatMap_map, tripleBytes_decodePayload]
    rfl
  case validateResponse =>
    simp only [responseBytes, valueBytes, tripleBytes_decodePayload]
    rfl

end Sys2Proof.Machine
end

section
/-! The host's pseudo-instructions WAITCONV and CONVERT (30_encoding.md R113): from what one POLL and one START do on
each path the draws name, what the bounded loop leaves. -/

namespace Sys2Proof.Machine

open Sys2Proof

variable {B P : Type}

theorem Concludes.draws {s t : State B P} {r : Response B P} {calls : List (Event B P)} {line : Line} {phase : Phase}
    (h : Concludes s t r calls line phase) : DrawsAfter s t calls :=
  ⟨h.pinDraws, h.busDraws, by simp [h.trace]⟩

/-- Draws for more calls are draws for the first of them. -/
theorem Supplies.of_append {a b : List (Event B P)} {s : State B P} (h : Supplies (a ++ b) s) : Supplies a s :=
  have reached : DrawsAfter s { s with
      trace := s.trace ++ a
      pinDraws := s.pinDraws.drop (a.countP Event.isPin)
      busDraws := s.busDraws.drop (a.countP fun e => !e.isPin) } a := ⟨rfl, rfl, List.length_append⟩
  ((Supplies.append reached).mp h).1

/-! ### One POLL on each path (42_transfer.md R187 to R190) -/

theorem exec_poll {s : State} (h : s.strategy = .lineHold) : exec .poll s = .next s.pollConversionDone := by
  simp only [exec, execPoll, h]

/-- A sample of 0xFF: the line is released (R188). -/
theorem pollConversionDone_idle {s : State B P} {x : PinResult P}
    (h : Supplies [.xfer [0xFF#8] (.ok [0xFF#8]), .pinHigh x] s) :
    Concludes s s.pollConversionDone (releaseResponse (.done true) x) [.xfer [0xFF#8] (.ok [0xFF#8]), .pinHigh x]
      (levelAfter .deasserted x) .idle := by
  obtain ⟨hb, rfl, -⟩ := h
  have sampled := (within_busTransfer s [0xFF#8]).releaseAndReturn (.done true)
  rw [hb] at sampled
  rw [State.pollConversionDone, show s.busDraw 1 = _ from hb]
  exact sampled

/-- Any other sample: the line stays held, and no pin call is made (R189). -/
theorem pollConversionDone_busy {s : State B P} {b : Byte} (busy : b ≠ 0xFF#8)
    (h : Supplies [.xfer [0xFF#8] (.ok [b])] s) :
    Concludes s s.pollConversionDone (.ok (.done false)) [.xfer [0xFF#8] (.ok [b])] s.csLine s.phase := by
  obtain ⟨hb, -⟩ := h
  have sampled := (within_busTransfer s [0xFF#8]).conclude (.ok (.done false))
  rw [hb] at sampled
  have unequal : [b] ≠ [allOnes] := fun e => busy (List.head_eq_of_cons_eq e)
  rw [State.pollConversionDone, show s.busDraw 1 = _ from hb]
  simp only [unequal, ↓reduceIte]
  exact sampled

/-- A failed sample: TransferFailure after one release (R190). -/
theorem pollConversionDone_fails {s : State B P} {c : B} {x : PinResult P}
    (h : Supplies [.xfer [0xFF#8] (.err c), .pinHigh x] s) :
    Concludes s s.pollConversionDone (.err (.transferFailure c)) [.xfer [0xFF#8] (.err c), .pinHigh x]
      (levelAfter .deasserted x) .idle := by
  obtain ⟨hb, rfl, -⟩ := h
  have sampled := (within_busTransfer s [0xFF#8]).fail (.transferFailure c)
  rw [hb] at sampled
  rw [State.pollConversionDone, show s.busDraw 1 = _ from hb]
  exact sampled

/-! ### WAITCONV -/

/-- The calls of polls that sample `busy`, one byte each. -/
abbrev sampleCalls (busy : List Byte) : List (Event B P) := busy.map fun b => .xfer [0xFF#8] (.ok [b])

/-- From `s`, `u` is left by polls that sampled the bytes `busy` and returned Ok(false). -/
structure PolledBusy (s u : State B P) (busy : List Byte) : Prop where
  strategy : u.strategy = s.strategy
  csLine : u.csLine = s.csLine
  phase : u.phase = s.phase
  trace : u.trace = s.trace ++ sampleCalls busy
  responses : u.responses = s.responses ++ List.replicate busy.length (.ok (.done false))
  pinDraws : u.pinDraws = s.pinDraws
  busDraws : u.busDraws = s.busDraws.drop busy.length

theorem PolledBusy.refl (s : State B P) : PolledBusy s s [] := by constructor <;> simp

/-- One busy poll more, made first. -/
theorem PolledBusy.cons {s t u : State B P} {b : Byte} {busy : List Byte}
    (first : Concludes s t (.ok (.done false)) [.xfer [0xFF#8] (.ok [b])] s.csLine s.phase)
    (rest : PolledBusy t u busy) :
    PolledBusy s u (b :: busy) where
  strategy := rest.strategy.trans first.strategy
  csLine := rest.csLine.trans first.csLine
  phase := rest.phase.trans first.phase
  trace := by simp [rest.trace, first.trace]
  responses := by simp [rest.responses, first.responses, List.replicate_succ]
  pinDraws := by simp [rest.pinDraws, first.pinDraws, Event.isPin]
  busDraws := by simp [rest.busDraws, first.busDraws, Event.isPin, Nat.add_comm]

theorem PolledBusy.draws {s u : State B P} {busy : List Byte} (h : PolledBusy s u busy) :
    DrawsAfter s u (sampleCalls busy) where
  pins := by simp [h.pinDraws, Event.isPin, Function.comp_def]
  buses := by simp [h.busDraws, Event.isPin, Function.comp_def]
  count := by simp [h.trace]

/-- WAITCONV goes on after a poll that returns Ok(false). -/
theorem waitConv_of_busy {s : State} {calls : List (Event BusCause PinCause)} {line : Line} {phase : Phase} (k : Nat)
    (g : s.strategy = .lineHold) (h : Concludes s s.pollConversionDone (.ok (.done false)) calls line phase) :
    waitConv (k + 1) s = waitConv k s.pollConversionDone := by
  rw [waitConv, exec_poll g]
  exact if_pos h.responses

/-- WAITCONV ends with the first poll that returns anything else. -/
theorem waitConv_of_ended {s : State} {r : Response BusCause PinCause} {calls : List (Event BusCause PinCause)}
    {line : Line} {phase : Phase} (k : Nat) (g : s.strategy = .lineHold)
    (h : Concludes s s.pollConversionDone r calls line phase) (hr : r ≠ .ok (.done false)) :
    waitConv (k + 1) s = .next s.pollConversionDone := by
  rw [waitConv, exec_poll g]
  refine if_neg fun e => hr ?_
  rw [h.responses] at e
  exact List.head_eq_of_cons_eq (List.append_cancel_left e)

/-- While the samples are not 0xFF, WAITCONV polls on. -/
theorem waitConv_polls_busy (k : Nat) {busy : List Byte} : ∀ {s : State}, s.strategy = .lineHold →
    (∀ b ∈ busy, b ≠ 0xFF#8) → Supplies (sampleCalls busy) s →
    ∃ u, waitConv (busy.length + k) s = waitConv k u ∧ PolledBusy s u busy := by
  induction busy with
  | nil => exact fun {s} _ _ _ => ⟨s, by simp, .refl s⟩
  | cons b busy ih =>
    intro s g notIdle supplied
    obtain ⟨headBusy, restBusy⟩ := List.forall_mem_cons.mp notIdle
    have polled := pollConversionDone_busy headBusy (s := s) ⟨supplied.1, trivial⟩
    obtain ⟨-, next⟩ := (Supplies.append polled.draws).mp supplied
    obtain ⟨u, looped, rest⟩ := ih (polled.strategy.trans g) restBusy next
    refine ⟨u, ?_, .cons polled rest⟩
    rw [List.length_cons, Nat.add_right_comm, waitConv_of_busy _ g polled, looped]

/-- Where every poll with the draws of `last` returns `r`, which is not Ok(false), WAITCONV ends so after the busy
samples. -/
theorem waitConv_ends {s : State} {k : Nat} {busy : List Byte} {last : List (Event BusCause PinCause)}
    {r : Response BusCause PinCause} {line : Line} {phase : Phase} (g : s.strategy = .lineHold) (hk : busy.length < k)
    (notIdle : ∀ b ∈ busy, b ≠ 0xFF#8) (supplied : Supplies (sampleCalls busy ++ last) s)
    (poll : ∀ u : State, Supplies last u → Concludes u u.pollConversionDone r last line phase)
    (hr : r ≠ .ok (.done false)) :
    ∃ t, waitConv k s = .next t ∧
      t.responses = s.responses ++ List.replicate busy.length (.ok (.done false)) ++ [r] ∧
      t.trace = s.trace ++ sampleCalls busy ++ last ∧ t.csLine = line ∧ t.phase = phase := by
  obtain ⟨m, rfl⟩ : ∃ m, k = busy.length + (m + 1) := Nat.exists_eq_add_of_lt hk
  obtain ⟨u, looped, polled⟩ := waitConv_polls_busy (m + 1) g notIdle supplied.of_append
  have ended := poll u ((Supplies.append polled.draws).mp supplied).2
  refine ⟨u.pollConversionDone, looped.trans (waitConv_of_ended m (polled.strategy.trans g) ended hr), ?_, ?_,
    ended.csLine, ended.phase⟩
  · rw [ended.responses, polled.responses]
  · rw [ended.trace, polled.trace]

/-- Settles O50: the busy polls, then the poll that ends the loop or the end of the count. -/
theorem waitConvPollsUntilAllOnes : Obligations.WaitConvPollsUntilAllOnes := by
  unfold Obligations.WaitConvPollsUntilAllOnes
  refine ⟨fun s k busy x g hk notIdle supplied => ?idle, fun s k busy c x g hk notIdle supplied => ?fails,
    fun s busy g notIdle supplied => ?counted⟩
  case idle =>
    have ends := waitConv_ends g hk notIdle supplied fun _ => pollConversionDone_idle
    cases x with
    | ok => exact ends (by simp [releaseResponse])
    | err p => exact ends (by simp [releaseResponse])
  case fails =>
    exact waitConv_ends g hk notIdle supplied (fun _ => pollConversionDone_fails) (by simp)
  case counted =>
    obtain ⟨u, looped, polled⟩ := waitConv_polls_busy 0 g notIdle supplied
    exact ⟨u, looped, polled.responses, polled.trace, polled.csLine, polled.phase⟩

/-! ### One START on each path (42_transfer.md R174 to R178) -/

section Start

variable {s : State B P} {md : BitVec 2} {dcp : Bool} {ch : BitVec 3}

/-- Under LineHold a transmitted command leaves the line held and polling begun (R177). -/
theorem startConversion_holds {rx : List Byte} (g : s.strategy = .lineHold)
    (h : Supplies (sentCalls (composeAdcv s.params md ch dcp) rx) s) :
    Concludes s (s.startConversion md dcp ch) (.ok .unit) (sentCalls (composeAdcv s.params md ch dcp) rx)
      .asserted .polling := by
  obtain ⟨u, sent, reached, line, -⟩ := assertAndSend_transmitted h
  have held := (reached.trans (within_setPhase u (afterCommandSent .lineHold))).conclude (.ok .unit)
  rw [List.append_nil, State.setPhase_csLine, line] at held
  simp only [State.startConversion, sent, Flow.andThen, State.concludeStart, reached.strategy, g]
  exact held

/-- Under ReleaseImmediately a transmitted command is followed by the release, whose outcome decides the response
(R176). -/
theorem startConversion_releases {rx : List Byte} {x : PinResult P} (g : s.strategy = .releaseImmediately)
    (h : Supplies (sentCalls (composeAdcv s.params md ch dcp) rx ++ [.pinHigh x]) s) :
    Concludes s (s.startConversion md dcp ch) (releaseResponse .unit x)
      (sentCalls (composeAdcv s.params md ch dcp) rx ++ [.pinHigh x]) (levelAfter .deasserted x) .idle := by
  obtain ⟨u, sent, reached, -⟩ := assertAndSend_transmitted h.of_append
  obtain ⟨-, rfl, -⟩ := (Supplies.append reached.draws).mp h
  simp only [State.startConversion, sent, Flow.andThen, State.concludeStart, reached.strategy, g]
  exact reached.releaseAndReturn .unit

/-- A failed assert ends START (R178). -/
theorem startConversion_assertFails {c : P} {x : PinResult P} (h : Supplies [.pinLow (.err c), .pinHigh x] s) :
    Concludes s (s.startConversion md dcp ch) (.err (.chipSelectFailure c)) [.pinLow (.err c), .pinHigh x]
      (levelAfter .deasserted x) .idle := by
  obtain ⟨t, ended, failed⟩ := assertAndSend_assertFails (opc := composeAdcv s.params md ch dcp) h
  rw [State.startConversion, ended]
  exact failed

/-- A failed command ends START (R178). -/
theorem startConversion_commandFails {b : B} {x : PinResult P}
    (h : Supplies [.pinLow .ok, commandEvent (composeAdcv s.params md ch dcp) (.err b), .pinHigh x] s) :
    Concludes s (s.startConversion md dcp ch) (.err (.transferFailure b))
      [.pinLow .ok, commandEvent (composeAdcv s.params md ch dcp) (.err b), .pinHigh x]
      (levelAfter .deasserted x) .idle := by
  obtain ⟨t, ended, failed⟩ := assertAndSend_commandFails h
  rw [State.startConversion, ended]
  exact failed

end Start

/-! ### CONVERT -/

section Convert

variable {s : State} {md : BitVec 2} {dcp : Bool} {ch : BitVec 3} {calls : List (Event BusCause PinCause)} {line : Line}
  {phase : Phase}

theorem exec_startconv_supported (md : BitVec 2) (dcp : Bool) (h : supportsCh s.params ch = true) :
    exec (.startconv md dcp ch) s = .next (s.startConversion md dcp ch) := by
  simp only [exec, execStartconv, h, ↓reduceIte]

theorem exec_startconv_unsupported (md : BitVec 2) (dcp : Bool) (h : supportsCh s.params ch = false) :
    exec (.startconv md dcp ch) s = .next (s.refuse .unsupportedCellSelection) := by
  simp only [exec, execStartconv, h, Bool.false_eq_true, ↓reduceIte]

/-- After a START that returns Ok, CONVERT is WAITCONV. -/
theorem convert_of_started (k : Nat) (hch : supportsCh s.params ch = true)
    (h : Concludes s (s.startConversion md dcp ch) (.ok .unit) calls line phase) :
    convert md dcp ch k s = waitConv k (s.startConversion md dcp ch) := by
  rw [convert, exec_startconv_supported md dcp hch]
  exact if_pos h.responses

/-- A START that returns anything else ends CONVERT. -/
theorem convert_of_failed {r : Response BusCause PinCause} (k : Nat) (hch : supportsCh s.params ch = true)
    (h : Concludes s (s.startConversion md dcp ch) r calls line phase) (hr : r ≠ .ok .unit) :
    ∃ t, convert md dcp ch k s = .next t ∧ Concludes s t r calls line phase := by
  refine ⟨_, ?_, h⟩
  rw [convert, exec_startconv_supported md dcp hch]
  refine if_neg fun e => hr ?_
  rw [h.responses] at e
  exact List.head_eq_of_cons_eq (List.append_cancel_left e)

/-- A refused START ends CONVERT: it returns no response. -/
theorem convert_of_refused (md : BitVec 2) (dcp : Bool) (k : Nat) (hch : supportsCh s.params ch = false) :
    convert md dcp ch k s = .next (s.refuse .unsupportedCellSelection) := by
  rw [convert, exec_startconv_unsupported md dcp hch]
  exact if_neg (by simp)

end Convert

/-- Settles O51: what the START leaves decides whether WAITCONV follows. -/
theorem convertStartsThenPolls : Obligations.ConvertStartsThenPolls := by
  unfold Obligations.ConvertStartsThenPolls
  refine ⟨fun s md dcp ch k rx g hch supplied => ?started,
    fun s md dcp ch k rx busy g hch hk notIdle supplied => ?ends,
    fun s md dcp ch k c x hch supplied => ?assertFails,
    fun s md dcp ch k b x hch supplied => ?commandFails,
    fun s md dcp ch k rx c g hch supplied => ?releaseFails, fun s md dcp ch k hch => ?refused⟩
  case started =>
    have started := startConversion_holds g supplied
    exact ⟨_, convert_of_started k hch started, started⟩
  case ends =>
    have started := startConversion_holds g supplied.of_append
    obtain ⟨-, polls⟩ := (Supplies.append started.draws).mp supplied
    obtain ⟨t, ended, responses, trace, line, phase⟩ := waitConv_ends (started.strategy.trans g) hk notIdle polls
      (fun _ => pollConversionDone_idle) (by simp [releaseResponse])
    refine ⟨t, (convert_of_started k hch started).trans ended, ?_, ?_, line, phase⟩
    · rw [responses, started.responses]
      rfl
    · rw [trace, started.trace]
      simp only [List.append_assoc]
      rfl
  case assertFails =>
    exact convert_of_failed k hch (startConversion_assertFails supplied) (by simp)
  case commandFails =>
    exact convert_of_failed k hch (startConversion_commandFails supplied) (by simp)
  case releaseFails =>
    exact convert_of_failed k hch (startConversion_releases g supplied) (by simp)
  case refused =>
    exact ⟨_, convert_of_refused md dcp k hch, refuses_refuse s _⟩

end Sys2Proof.Machine
end

section
/-! The checksum engine (40_checksum.md R130 to R136). One byte of the table-driven CALC is eight bits of the bit-serial
register, whose steps are linear over GF(2) and injective; the register has 15 bits, and bit 15 of ACC never counts. -/

namespace Sys2Proof.Machine

open Sys2Proof

/-! ### One bit and one byte of the bit-serial register (R134) -/

/-- A step of the register loses nothing: where the x^15 term is shifted out, the polynomial leaves its odd term. -/
theorem eq_zero_of_pecBit_zero {r : BitVec 15} {k : Nat} (h : pecBit 0#8 r k = 0#15) : r = 0#15 := by
  cases top : r.getLsbD 14 with
  | true =>
    have odd := congrArg (BitVec.getLsbD · 0) h
    simp [pecBit, top, pecPoly] at odd
  | false =>
    simp only [pecBit, BitVec.getLsbD_zero, top, bne_self_eq_false, Bool.false_eq_true, ↓reduceIte] at h
    apply BitVec.eq_of_getLsbD_eq
    intro i hi
    by_cases below : i < 14
    · have shifted := congrArg (BitVec.getLsbD · (i + 1)) h
      simpa [-BitVec.getLsbD_eq_getElem, show i + 1 < 15 by omega] using shifted
    · obtain rfl : i = 14 := by omega
      simpa using top

theorem pecBit_injective (b : Byte) (k : Nat) : Function.Injective (pecBit b · k) := by
  intro x y (h : pecBit b x k = pecBit b y k)
  have difference := pecBit_xor b b x y k
  rw [BitVec.xor_self, h, BitVec.xor_self] at difference
  exact BitVec.xor_eq_zero_iff.mp (eq_zero_of_pecBit_zero difference)

/-- A fold whose every step is injective in the accumulator is injective in its start. -/
theorem foldl_injective_of_step {α β : Type} {f : α → β → α} (hf : ∀ b, Function.Injective (f · b)) (l : List β) :
    Function.Injective (l.foldl f ·) := by
  induction l with
  | nil => exact fun _ _ h => h
  | cons b l ih => exact ih.comp (hf b)

theorem pecByteBits_injective (b : Byte) : Function.Injective (pecByteBits · b) :=
  foldl_injective_of_step (pecBit_injective b) _

/-- A byte fed in bit by bit is the byte added to the top eight bits of the register, then eight zero bits. -/
theorem pecByteBits_eq_zero_byte (r : BitVec 15) (b : Byte) :
    pecByteBits r b = pecByteBits (r ^^^ (b.setWidth 15 <<< 7)) 0#8 := by
  have fromZero : ∀ c : Byte, pecByteBits 0#15 c = pecByteBits (c.setWidth 15 <<< 7) 0#8 := by decide +kernel
  calc pecByteBits r b = pecByteBits (r ^^^ 0#15) (0#8 ^^^ b) := by rw [BitVec.xor_zero, BitVec.zero_xor]
    _ = pecByteBits r 0#8 ^^^ pecByteBits (b.setWidth 15 <<< 7) 0#8 := by rw [pecByteBits_xor, fromZero]
    _ = pecByteBits (r ^^^ (b.setWidth 15 <<< 7)) 0#8 := by rw [← pecByteBits_xor, BitVec.xor_zero]

/-- Different bytes leave different registers. -/
theorem pecByteBits_byte_injective (r : BitVec 15) : Function.Injective (pecByteBits r) := by
  intro b c h
  rw [pecByteBits_eq_zero_byte r b, pecByteBits_eq_zero_byte r c] at h
  have shifted := (BitVec.xor_right_inj r).mp (pecByteBits_injective 0#8 h)
  apply BitVec.eq_of_getLsbD_eq
  intro i hi
  have bit := congrArg (BitVec.getLsbD · (7 + i)) shifted
  simpa [show 7 + i < 15 by omega, show i < 15 by omega] using bit

/-! ### The table (R132, R133) -/

theorem genRound_getLsbD_top (r : Word16) : (genRound r).getLsbD 15 = false := by
  unfold genRound
  split <;> simp [pecPoly]

/-- Masked to 15 bits or not, a value has the same low 15 bits. -/
theorem setWidth_and_mask15 (v : Word16) : (v &&& 0x7FFF#16).setWidth 15 = v.setWidth 15 := by
  rw [BitVec.setWidth_and]
  exact BitVec.and_allOnes

/-- A round of GEN is a step of the register on a zero bit. -/
theorem genRound_setWidth (r : Word16) (k : Nat) : (genRound r).setWidth 15 = pecBit 0#8 (r.setWidth 15) k := by
  have shifted : ((r <<< 1) &&& 0x7FFF#16).setWidth 15 = r.setWidth 15 <<< 1 := by
    rw [setWidth_and_mask15, BitVec.setWidth_shiftLeft_of_le (by decide)]
  have top : (r.setWidth 15).getLsbD 14 = r.getLsbD 14 := by simp
  rw [genRound, pecBit, BitVec.getLsbD_zero, top]
  cases r.getLsbD 14 <;> simp [shifted]

/-- GEN(i) is what the byte `i` leaves in the register, from zero. -/
theorem gen_setWidth (i : Byte) : (gen i).setWidth 15 = pecByteBits 0#15 i := by
  rw [pecByteBits_eq_zero_byte, BitVec.zero_xor]
  have start : (i.setWidth 16 <<< 7).setWidth 15 = i.setWidth 15 <<< 7 := by
    rw [BitVec.setWidth_shiftLeft_of_le (by decide), BitVec.setWidth_setWidth_of_le _ (by decide)]
  simp only [pecByteBits, List.foldl, ← start, ← genRound_setWidth]
  rfl

theorem pecTable_getD (i : Byte) : pecTable.getD i.toNat 0#16 = gen i := by
  revert i
  decide +kernel

theorem eq_zero_of_gen_eq_zero {i : Byte} (h : gen i = 0#16) : i = 0#8 := by
  have zero : pecByteBits 0#15 i = pecByteBits 0#15 0#8 := by rw [← gen_setWidth, ← gen_setWidth, h]; rfl
  exact pecByteBits_byte_injective 0#15 zero

/-- Settles O12: the entries are those of GEN, whose last round clears bit 15 and which loses nothing of the index. -/
theorem tableIsGenerated : Obligations.TableIsGenerated := by
  unfold Obligations.TableIsGenerated
  exact ⟨by decide +kernel, fun i => ⟨pecTable_getD i, genRound_getLsbD_top _, eq_zero_of_gen_eq_zero⟩⟩

/-! ### One byte of the table-driven CALC (R131) -/

/-- The index is bits [14:7] of ACC against the byte (90_conflicts.md C1). -/
theorem pecIndex_eq (acc : Word16) (b : Byte) : pecIndex acc b = (acc.extractLsb' 7 8 ^^^ b).setWidth 16 := by
  rw [pecIndex, show 0x00FF#16 = (BitVec.allOnes 8).setWidth 16 by decide]
  ext i hi
  simp only [BitVec.getElem_and, BitVec.getElem_xor, BitVec.getElem_setWidth, BitVec.getElem_ushiftRight,
    BitVec.getLsbD_xor, BitVec.getLsbD_extractLsb', BitVec.getLsbD_allOnes]
  by_cases low : i < 8
  · simp [low]
  · simp [low, BitVec.getLsbD_of_ge b i (by omega)]

/-- The register is its low seven bits and the eight bits that form an index. -/
theorem xor_low_high (r : BitVec 15) :
    (r.setWidth 7).setWidth 15 ^^^ ((r.extractLsb' 7 8).setWidth 15 <<< 7) = r := by
  apply BitVec.eq_of_getLsbD_eq
  intro i hi
  by_cases low : i < 7
  · simp [hi, low]
  · simp [hi, low, show i - 7 < 8 by omega, show 7 + (i - 7) = i by omega]

/-- A byte moves the low seven bits of the register up; the top eight, with the byte, choose what is added. -/
theorem pecByteBits_eq_shift_xor (r : BitVec 15) (b : Byte) :
    pecByteBits r b = (r <<< 8) ^^^ pecByteBits 0#15 (r.extractLsb' 7 8 ^^^ b) := by
  have moved : ∀ x : BitVec 7, pecByteBits (x.setWidth 15) 0#8 = x.setWidth 15 <<< 8 := by decide +kernel
  have lowMoved : (r.setWidth 7).setWidth 15 <<< 8 = r <<< 8 := by
    apply BitVec.eq_of_getLsbD_eq
    intro i hi
    simp [-BitVec.getLsbD_eq_getElem, hi, show i - 8 < 7 by omega, show i - 8 < 15 by omega]
  have high (c : Byte) : pecByteBits (c.setWidth 15 <<< 7) b = pecByteBits 0#15 (c ^^^ b) := by
    rw [pecByteBits_eq_zero_byte, pecByteBits_eq_zero_byte 0#15, BitVec.setWidth_xor, BitVec.shiftLeft_xor_distrib,
      BitVec.zero_xor]
  calc pecByteBits r b
      = pecByteBits ((r.setWidth 7).setWidth 15 ^^^ ((r.extractLsb' 7 8).setWidth 15 <<< 7)) (0#8 ^^^ b) := by
        rw [xor_low_high, BitVec.zero_xor]
    _ = (r <<< 8) ^^^ pecByteBits 0#15 (r.extractLsb' 7 8 ^^^ b) := by
        rw [pecByteBits_xor, moved, lowMoved, high]

section AgreeingTable

variable {T : List Word16}

/-- The table `T` is the generated one below bit 15. -/
def GeneratedBelowTop (T : List Word16) : Prop :=
  ∀ i : Byte, (T.getD i.toNat 0#16).setWidth 15 = (gen i).setWidth 15

theorem generatedBelowTop_pecTable : GeneratedBelowTop pecTable := fun i => by rw [pecTable_getD]

theorem pecStep_setWidth (hT : GeneratedBelowTop T) (acc : Word16) (b : Byte) :
    (pecStep T acc b).setWidth 15 = pecByteBits (acc.setWidth 15) b := by
  have index : (acc.setWidth 15).extractLsb' 7 8 = acc.extractLsb' 7 8 := by
    apply BitVec.eq_of_getLsbD_eq
    intro i hi
    simp [show 7 + i < 15 by omega]
  rw [pecStep, pecIndex_eq, BitVec.toNat_setWidth_of_le (by decide), BitVec.setWidth_xor,
    BitVec.setWidth_shiftLeft_of_le (by decide), hT, gen_setWidth, pecByteBits_eq_shift_xor (acc.setWidth 15),
    index]

/-- A checksum register is the bit-serial register shifted left (R131, R134). -/
theorem pecRegister_eq (hT : GeneratedBelowTop T) (d : List Byte) :
    pecRegister T d = (d.foldl pecByteBits (pecSeed.setWidth 15)).setWidth 16 <<< 1 := by
  have drop15 (v : Word16) : v <<< 1 = (v.setWidth 15).setWidth 16 <<< 1 := by
    apply BitVec.eq_of_getLsbD_eq
    intro i hi
    simp [-BitVec.getLsbD_eq_getElem, hi, show i - 1 < 15 by omega, show i - 1 < 16 by omega]
  rw [pecRegister, drop15, ← List.foldl_hom (BitVec.setWidth 15) (pecStep_setWidth hT · · |>.symm)]

end AgreeingTable

/-- Settles O11: byte by byte, the low 15 bits of ACC are the bit-serial register. -/
theorem calcEqualsBitSerial : Obligations.CalcEqualsBitSerial := by
  unfold Obligations.CalcEqualsBitSerial
  intro d
  rw [calcPec, pecRegister_eq generatedBelowTop_pecTable, calcBits]

/-- Settles O13: a table that agrees below bit 15 is the generated one there. -/
theorem tableBit15Immaterial : Obligations.TableBit15Immaterial := by
  unfold Obligations.TableBit15Immaterial
  intro T agrees d
  have hT : GeneratedBelowTop T := fun i => by
    rw [← pecTable_getD, ← setWidth_and_mask15, ← setWidth_and_mask15 (pecTable.getD _ _)]
    exact congrArg _ (agrees i)
  rw [calcPec, pecRegister_eq hT, pecRegister_eq generatedBelowTop_pecTable]

/-! ### Properties of the result (R135) -/

/-- The final shift leaves bit 0 clear. -/
theorem pecRegister_getLsbD_zero (T : List Word16) (d : List Byte) : (pecRegister T d).getLsbD 0 = false := by
  simp [pecRegister]

theorem loByte_getLsbD_zero (v : Word16) : (loByte v).getLsbD 0 = v.getLsbD 0 := by
  simp [loByte]

/-- Settles O14: the low byte keeps bit 0 of the register, which the final shift clears. -/
theorem calcCodeIsEven : Obligations.CalcCodeIsEven := by
  unfold Obligations.CalcCodeIsEven
  exact ⟨by decide, fun d => ⟨_, _, rfl, (loByte_getLsbD_zero _).trans (pecRegister_getLsbD_zero _ d)⟩⟩

/-- The register is linear in its start and its bytes. -/
theorem foldl_pecByteBits_xor {d e : List Byte} (h : d.length = e.length) (x y : BitVec 15) :
    (List.zipWith (· ^^^ ·) d e).foldl pecByteBits (x ^^^ y) = d.foldl pecByteBits x ^^^ e.foldl pecByteBits y := by
  induction d generalizing e x y with
  | nil => cases List.eq_nil_of_length_eq_zero h.symm; rfl
  | cons b d ih =>
    cases e with
    | nil => cases h
    | cons c e =>
      simp only [List.zipWith_cons_cons, List.foldl_cons, pecByteBits_xor]
      exact ih (Nat.succ.inj h) _ _

/-- The XOR of two checksums has no seed in it: it is the code of the XOR of the inputs, from zero. -/
theorem calcPec_xor {d e : List Byte} (h : d.length = e.length) :
    List.zipWith (· ^^^ ·) (calcPec d) (calcPec e) =
      be16 (((List.zipWith (· ^^^ ·) d e).foldl pecByteBits 0#15).setWidth 16 <<< 1) := by
  rw [calcEqualsBitSerial, calcEqualsBitSerial, calcBits, calcBits, be16_xor, ← BitVec.shiftLeft_xor_distrib,
    ← BitVec.setWidth_xor, ← foldl_pecByteBits_xor h, BitVec.xor_self]

/-- Settles O15: adding zero bytes to the XOR of the inputs leaves it as it is. -/
theorem calcIsAffine : Obligations.CalcIsAffine := by
  unfold Obligations.CalcIsAffine
  intro d e h
  have length : (List.zipWith (· ^^^ ·) d e).length = d.length := by rw [List.length_zipWith, h, Nat.min_self]
  have xor_zeros (l : List Byte) : List.zipWith (· ^^^ ·) l (List.replicate l.length 0#8) = l :=
    List.ext_getElem (by simp) (by simp)
  rw [calcPec_xor h, ← length, calcPec_xor List.length_replicate.symm, xor_zeros]

/-- The checksum carries the whole register. -/
theorem foldl_eq_of_calcPec_eq {d e : List Byte} (h : calcPec d = calcPec e) :
    d.foldl pecByteBits (pecSeed.setWidth 15) = e.foldl pecByteBits (pecSeed.setWidth 15) := by
  rw [calcEqualsBitSerial, calcEqualsBitSerial] at h
  have code := be16_injective h
  apply BitVec.eq_of_getLsbD_eq
  intro i hi
  have bit := congrArg (BitVec.getLsbD · (i + 1)) code
  simpa [-BitVec.getLsbD_eq_getElem, hi, show i + 1 < 16 by omega, show i < 16 by omega] using bit

/-- Settles O16: the changed byte leaves another register, and the bytes after it keep the two apart. -/
theorem singleBitErrorChangesChecksum : Obligations.SingleBitErrorChangesChecksum := by
  unfold Obligations.SingleBitErrorChangesChecksum
  intro d j k hj hk same
  obtain ⟨before, b, after, rfl, -, changed⟩ := List.exists_of_modify (· ^^^ (1#8 <<< k)) hj
  have register := foldl_eq_of_calcPec_eq same
  simp only [changed, List.foldl_append, List.foldl_cons] at register
  have byte := pecByteBits_byte_injective _ (foldl_injective_of_step pecByteBits_injective after register)
  have bit := congrArg (BitVec.getLsbD · k) byte
  simp [hk] at bit

/-- Settles O17: CALC writes ACC only, then returns its two bytes. -/
theorem calcRequestReturnsChecksum : Obligations.CalcRequestReturnsChecksum := by
  unfold Obligations.CalcRequestReturnsChecksum
  exact fun d s => ⟨_, _, _, rfl, rfl, (within_runCalc s d).conclude _⟩

end Sys2Proof.Machine
end

section
/-! The command framer and the response validator (41_framing.md R150 to R158). A response frame is a payload before
its checksum, so a corrupted bit stands either in the input of CALC or in the code CALC is compared with. -/

namespace Sys2Proof.Machine

open Sys2Proof

/-! ### FRAME (R150 to R152) -/

/-- Settles O19: bytes 2 and 3 are CALC of the first two, so they keep its clear bit, and bytes 0 and 1 are the
opcode. -/
theorem framesCarryTheirChecksum : Obligations.FramesCarryTheirChecksum := by
  unfold Obligations.FramesCarryTheirChecksum
  refine ⟨fun opc => ⟨rfl, (loByte_getLsbD_zero _).trans (pecRegister_getLsbD_zero _ (be16 opc))⟩, fun a b same => ?_⟩
  have opcodes : be16 a = be16 b := congrArg (fun f : CommandFrame => [f.b0, f.b1]) same
  exact be16_injective opcodes

/-- Settles O18: FRAME writes ACC and CMD only, then returns the frame in CMD. -/
theorem frameRequestReturnsFrame : Obligations.FrameRequestReturnsFrame := by
  unfold Obligations.FrameRequestReturnsFrame
  exact fun opc s => ⟨_, frame opc, rfl, (within_runFrame s opc).conclude _, rfl, rfl⟩

/-! ### VALIDATE (R155 to R158) -/

/-- The response of VALIDATE, with its check and its values written out on the bytes (R156, R157). -/
theorem validateResponse_validate {B P : Type} (r : ResponseFrame) :
    (validateResponse (validate r) : Response B P) =
      if [r.r6, r.r7] = calcPec [r.r0, r.r1, r.r2, r.r3, r.r4, r.r5] then
        .ok (.triple ⟨r.r1 ++ r.r0, r.r3 ++ r.r2, r.r5 ++ r.r4⟩) else .err .checksumMismatch := by
  simp only [validate, decodePayload, le16_eq_append, apply_ite validateResponse]
  rfl

/-- Settles O21: VALIDATE writes ACC only, then returns the values or ChecksumMismatch. -/
theorem validateRequestChecksAndDecodes : Obligations.ValidateRequestChecksAndDecodes := by
  unfold Obligations.ValidateRequestChecksAndDecodes
  intro r s
  rw [← validateResponse_validate]
  exact ⟨_, rfl, (within_runCalc s (payload r)).conclude _⟩

theorem validate_eq_none_iff {r : ResponseFrame} : validate r = none ↔ ¬ validFrame r = true := by
  simp [validate_eq]

/-- The check on the bytes of a frame in wire order (R156): the last two are CALC of the first six. -/
theorem validFrame_iff_bytes {r : ResponseFrame} :
    validFrame r = true ↔ r.bytes.drop 6 = calcPec (r.bytes.take 6) :=
  decide_eq_true_iff

theorem modify_flipBit_ne {l : List Byte} {j k : Nat} (hj : j < l.length) (hk : k < 8) :
    l.modify j (· ^^^ (1#8 <<< k)) ≠ l := by
  intro same
  have byte : l[j] ^^^ (1#8 <<< k) = l[j] := by
    rw [← List.getElem_modify_eq (· ^^^ (1#8 <<< k)) j l (by simpa using hj)]
    simp only [same]
  have bit := congrArg (BitVec.getLsbD · k) byte
  simp [hk] at bit

/-- One flipped bit of a payload followed by its checksum: in the payload it changes the checksum (40_checksum.md
R135 e), behind the payload it changes the bytes compared with it. -/
theorem drop_modify_flipBit_ne_calcPec {l : List Byte} {n j k : Nat} (valid : l.drop n = calcPec (l.take n))
    (hj : j < l.length) (hk : k < 8) :
    (l.modify j (· ^^^ (1#8 <<< k))).drop n ≠ calcPec ((l.modify j (· ^^^ (1#8 <<< k))).take n) := by
  rw [List.take_modify]
  rcases Nat.lt_or_ge j n with inPayload | inChecksum
  · rw [List.drop_modify_of_lt _ _ _ _ inPayload, valid]
    exact (singleBitErrorChangesChecksum _ j k (by simp; omega) hk).symm
  · rw [List.drop_modify_of_ge _ _ _ _ inChecksum, List.modify_eq_self ((List.length_take_le n l).trans inChecksum),
      ← valid]
    exact modify_flipBit_ne (by simp; omega) hk

/-- A checksum ends in a clear bit (40_checksum.md R135 a), so the last bit of a valid frame is clear. -/
theorem r7_getLsbD_zero_of_validFrame {r : ResponseFrame} (valid : validFrame r = true) : r.r7.getLsbD 0 = false := by
  have pec : [r.r6, r.r7] = calcPec (payload r) := of_decide_eq_true valid
  obtain ⟨hi, lo, code, even⟩ := calcCodeIsEven.2 (payload r)
  rw [code] at pec
  cases pec
  exact even

/-- Settles O22: a flipped bit is in the payload or in the checksum, and a set last bit is in no checksum. -/
theorem corruptedFramesAreRejected : Obligations.CorruptedFramesAreRejected := by
  unfold Obligations.CorruptedFramesAreRejected
  refine ⟨fun r j k valid hj hk => ?flipped, fun r set => ?lastBitSet⟩
  case flipped =>
    have length : (r.bytes.modify j (· ^^^ (1#8 <<< k))).length = 8 := List.length_modify ..
    rw [validate_eq_none_iff, validFrame_iff_bytes, bytes_responseFrameOf length]
    exact drop_modify_flipBit_ne_calcPec (validFrame_iff_bytes.mp valid) hj hk
  case lastBitSet =>
    rw [validate_eq_none_iff]
    exact fun valid => Bool.false_ne_true ((r7_getLsbD_zero_of_validFrame valid).symm.trans set)

end Sys2Proof.Machine
end

section
/-! The transfer engine (42_transfer.md): START, READ and POLL on each path the draws name, the refusals before any call,
the path table (R193), and the chip-select guarantee (R194). -/

namespace Sys2Proof.Machine

open Sys2Proof

variable {B P : Type}

/-! ### START_CONVERSION (R174 to R178) -/

/-- Settles O24: the release after a transmitted command decides response and line. -/
theorem startUnderReleaseImmediatelyReleases : Obligations.StartUnderReleaseImmediatelyReleases := by
  unfold Obligations.StartUnderReleaseImmediatelyReleases
  intro s md dcp ch rx x g hch supplied
  have started := startConversion_releases g supplied
  refine ⟨_, exec_startconv_supported md dcp hch, ?_⟩
  cases x with
  | ok => exact started
  | err p => exact started

/-- Settles O25: a transmitted command is the last call. -/
theorem startUnderLineHoldKeepsLine : Obligations.StartUnderLineHoldKeepsLine := by
  unfold Obligations.StartUnderLineHoldKeepsLine
  exact fun s md dcp ch rx g hch supplied =>
    ⟨_, exec_startconv_supported md dcp hch, startConversion_holds g supplied⟩

/-- Settles O26: ASSERT_AND_SEND has ended the START, whatever the strategy. -/
theorem startFailureReleases : Obligations.StartFailureReleases := by
  unfold Obligations.StartFailureReleases
  refine ⟨fun s md dcp ch c x hch supplied => ?assert, fun s md dcp ch b x hch supplied => ?command⟩
  case assert => exact ⟨_, exec_startconv_supported md dcp hch, startConversion_assertFails supplied⟩
  case command => exact ⟨_, exec_startconv_supported md dcp hch, startConversion_commandFails supplied⟩

/-- No choice of SUPPORTED_CH holds CH = 7 (30_encoding.md R96): its members are below 7. -/
theorem supportsCh_seven (p : Params) : supportsCh p 7#3 = false := by
  refine List.any_eq_false.mpr fun k _ => ?_
  simpa using k.isLt.ne

/-- Settles O27: the refusal comes before any call. -/
theorem startRefusesUnsupportedCells : Obligations.StartRefusesUnsupportedCells := by
  unfold Obligations.StartRefusesUnsupportedCells
  exact ⟨fun s md dcp ch hch => ⟨_, exec_startconv_unsupported md dcp hch, refuses_refuse s _⟩, supportsCh_seven⟩

/-! ### The device loop where the draws name the frames (R181 to R183) -/

/-- After the transfer of one device's frame and its check: the frame in RSP, its checksum in ACC. -/
def State.checkDevice (f : ResponseFrame) (s : State B P) : State B P :=
  ((s.busTransfer readTx).setRsp f).runCalc (payload f)

theorem within_checkDevice {s : State B P} {f : ResponseFrame} (h : s.busDraw 8 = .ok f.bytes) :
    Within s (s.checkDevice f) [deviceEvent f] := by
  have transfer := within_busTransfer s readTx
  rw [readTx_length, h] at transfer
  exact (transfer.trans (within_setRsp _ f)).trans (within_runCalc _ (payload f))

/-- One turn of the loop on a received frame: a valid one is decoded into OUT, any other ends the READ. -/
theorem readDevices_succ_of_frame {s : State B P} {f : ResponseFrame} (n : Nat) (h : s.busDraw 8 = .ok f.bytes) :
    s.readDevices (n + 1) = if validFrame f then ((s.checkDevice f).storeOut (decodePayload f)).readDevices n
      else .ended ((s.checkDevice f).fail .checksumMismatch) := by
  rw [State.readDevices, h]
  simp only [responseFrameOf_bytes, State.setRsp_rsp, validate_eq]
  cases validFrame f <;> rfl

/-- A failed transfer ends the READ. -/
theorem readDevices_succ_of_err {s : State B P} {b : B} (n : Nat) (h : s.busDraw 8 = .err b) :
    s.readDevices (n + 1) = .ended ((s.busTransfer readTx).fail (.transferFailure b)) := by
  rw [State.readDevices, h]

/-- While the frames drawn are valid, the loop goes on and appends their values to OUT in chain order. -/
theorem readDevices_of_validFrames (n : Nat) {fs : List ResponseFrame} : ∀ {s : State B P},
    (∀ f ∈ fs, validFrame f = true) → Supplies (fs.map deviceEvent) s →
    ∃ u, s.readDevices (fs.length + n) = u.readDevices n ∧ Within s u (fs.map deviceEvent) ∧
      u.out = s.out ++ fs.map decodePayload := by
  induction fs with
  | nil => exact fun {s} _ _ => ⟨s, by simp, .refl s, by simp⟩
  | cons f fs ih =>
    intro s valid supplied
    obtain ⟨headValid, restValid⟩ := List.forall_mem_cons.mp valid
    have stored := (within_checkDevice supplied.1).trans (within_storeOut _ (decodePayload f))
    obtain ⟨-, next⟩ := (Supplies.append stored.draws).mp supplied
    obtain ⟨u, looped, read, out⟩ := ih restValid next
    refine ⟨u, ?_, stored.trans read, ?_⟩
    · rw [List.length_cons, Nat.add_right_comm, readDevices_succ_of_frame _ supplied.1, if_pos headValid, looped]
    · rw [out, State.storeOut_out, List.append_assoc]
      rfl

/-! ### READ_REGISTER_GROUP (R180 to R184) -/

theorem exec_read_admitted {s : State} {reg : BitVec 5} {g : RegisterGroup} (h : admittedGroup s.params reg = some g) :
    exec (.read reg) s = .next (s.readRegisterGroup g) := by
  simp only [exec, execRead, h]

theorem exec_read_unadmitted {s : State} {reg : BitVec 5} (h : admittedGroup s.params reg = none) :
    exec (.read reg) s = .next (s.refuse .unsupportedRegisterGroup) := by
  simp only [exec, execRead, h]

section Read

variable {s : State B P} {g : RegisterGroup} {rx : List Byte} {fs : List ResponseFrame} {x : PinResult P}

/-- The calls of a READ whose command was transmitted and whose first devices returned the frames `fs`. -/
abbrev readCalls (s : State B P) (g : RegisterGroup) (rx : List Byte) (fs : List ResponseFrame) : List (Event B P) :=
  sentCalls (opcodeOf s.params.opcodeOf g) rx ++ fs.map deviceEvent

/-- After a transmitted command and valid frames `fs`, a READ of `fs.length + n` devices has `n` devices to go, with
the draws `rest` before it and the values of `fs` in OUT. -/
theorem readRegisterGroup_reaches {n : Nat} {rest : List (Event B P)} (hn : fs.length + n = s.params.chainLength)
    (valid : ∀ f ∈ fs, validFrame f = true) (supplied : Supplies (readCalls s g rx fs ++ rest) s) :
    ∃ u, s.readRegisterGroup g = (u.readDevices n).andThen State.concludeRead ∧ Within s u (readCalls s g rx fs) ∧
      u.out = fs.map decodePayload ∧ Supplies rest u := by
  have drawn := supplied.of_append
  obtain ⟨u, sent, reached, -⟩ := assertAndSend_transmitted drawn.of_append
  have begun := reached.trans (within_clearOut u)
  rw [List.append_nil] at begun
  obtain ⟨-, frames⟩ := (Supplies.append begun.draws).mp drawn
  obtain ⟨v, looped, read, out⟩ := readDevices_of_validFrames n valid frames
  have whole := begun.trans read
  refine ⟨v, ?_, whole, out, ((Supplies.append whole.draws).mp supplied).2⟩
  simp only [State.readRegisterGroup, sent, Flow.andThen, reached.params, ← hn, looped]

/-- Valid frames from every device: their values, unless the release fails (R181, R183). -/
theorem readRegisterGroup_returns (hn : fs.length = s.params.chainLength) (valid : ∀ f ∈ fs, validFrame f = true)
    (supplied : Supplies (readCalls s g rx fs ++ [.pinHigh x]) s) :
    Concludes s (s.readRegisterGroup g) (releaseResponse (.triples (fs.map decodePayload)) x)
      (readCalls s g rx fs ++ [.pinHigh x]) (levelAfter .deasserted x) .idle := by
  obtain ⟨u, reads, reached, out, rfl, -⟩ := readRegisterGroup_reaches (n := 0) hn valid supplied
  rw [reads, ← out]
  exact reached.releaseAndReturn (.triples u.out)

/-- A frame that fails its check ends READ (R182). -/
theorem readRegisterGroup_mismatches {bad : ResponseFrame} (hn : fs.length < s.params.chainLength)
    (valid : ∀ f ∈ fs, validFrame f = true) (invalid : validFrame bad = false)
    (supplied : Supplies (readCalls s g rx fs ++ [deviceEvent bad, .pinHigh x]) s) :
    Concludes s (s.readRegisterGroup g) (.err .checksumMismatch)
      (readCalls s g rx fs ++ [deviceEvent bad, .pinHigh x]) (levelAfter .deasserted x) .idle := by
  obtain ⟨n, hn⟩ := Nat.exists_eq_add_of_lt hn
  obtain ⟨u, reads, reached, -, hb, rfl, -⟩ := readRegisterGroup_reaches (n := n + 1) hn.symm valid supplied
  rw [reads, readDevices_succ_of_frame n hb, invalid]
  exact reached.concludes ((within_checkDevice hb).fail .checksumMismatch)

/-- A failed device transfer ends READ (R182). -/
theorem readRegisterGroup_deviceFails {b : B} (hn : fs.length < s.params.chainLength)
    (valid : ∀ f ∈ fs, validFrame f = true)
    (supplied : Supplies (readCalls s g rx fs ++ [.xfer readTx (.err b), .pinHigh x]) s) :
    Concludes s (s.readRegisterGroup g) (.err (.transferFailure b))
      (readCalls s g rx fs ++ [.xfer readTx (.err b), .pinHigh x]) (levelAfter .deasserted x) .idle := by
  obtain ⟨n, hn⟩ := Nat.exists_eq_add_of_lt hn
  obtain ⟨u, reads, reached, -, hb, rfl, -⟩ := readRegisterGroup_reaches (n := n + 1) hn.symm valid supplied
  have transfer := within_busTransfer u readTx
  rw [hb] at transfer
  rw [reads, readDevices_succ_of_err n hb]
  exact reached.concludes (transfer.fail (.transferFailure b))

/-- A failed assert ends READ (R184). -/
theorem readRegisterGroup_assertFails {c : P} (supplied : Supplies [.pinLow (.err c), .pinHigh x] s) :
    Concludes s (s.readRegisterGroup g) (.err (.chipSelectFailure c)) [.pinLow (.err c), .pinHigh x]
      (levelAfter .deasserted x) .idle := by
  obtain ⟨t, ended, failed⟩ := assertAndSend_assertFails (opc := opcodeOf s.params.opcodeOf g) supplied
  rw [State.readRegisterGroup, ended]
  exact failed

/-- A failed command ends READ (R184). -/
theorem readRegisterGroup_commandFails {b : B}
    (supplied : Supplies [.pinLow .ok, commandEvent (opcodeOf s.params.opcodeOf g) (.err b), .pinHigh x] s) :
    Concludes s (s.readRegisterGroup g) (.err (.transferFailure b))
      [.pinLow .ok, commandEvent (opcodeOf s.params.opcodeOf g) (.err b), .pinHigh x]
      (levelAfter .deasserted x) .idle := by
  obtain ⟨t, ended, failed⟩ := assertAndSend_commandFails supplied
  rw [State.readRegisterGroup, ended]
  exact failed

end Read

/-- The values of a frame, written out little-endian (41_framing.md R157). -/
theorem decodePayload_eq : decodePayload = fun f => ⟨f.r1 ++ f.r0, f.r3 ++ f.r2, f.r5 ++ f.r4⟩ := by
  funext f
  simp only [decodePayload, le16_eq_append]

/-- Settles O28: OUT holds the values of all frames when the release is made. -/
theorem readReturnsTriplesInChainOrder : Obligations.ReadReturnsTriplesInChainOrder := by
  unfold Obligations.ReadReturnsTriplesInChainOrder
  intro s reg g rx fs x admitted hn valid supplied
  have returned := readRegisterGroup_returns hn valid supplied
  rw [decodePayload_eq] at returned
  refine ⟨_, exec_read_admitted admitted, ?_⟩
  cases x with
  | ok => exact returned
  | err p => exact returned

/-- Settles O29: a failed check and a failed transfer both end the loop by FAIL. -/
theorem readAbortsAtFirstFailingDevice : Obligations.ReadAbortsAtFirstFailingDevice := by
  unfold Obligations.ReadAbortsAtFirstFailingDevice
  refine ⟨fun s reg g rx fs bad x admitted hn valid invalid supplied => ?mismatch,
    fun s reg g rx fs b x admitted hn valid supplied => ?transfer⟩
  case mismatch =>
    exact ⟨_, exec_read_admitted admitted, readRegisterGroup_mismatches hn valid invalid supplied⟩
  case transfer =>
    exact ⟨_, exec_read_admitted admitted, readRegisterGroup_deviceFails hn valid supplied⟩

/-- Settles O30: ASSERT_AND_SEND has ended the READ. -/
theorem readCommandFailureReleases : Obligations.ReadCommandFailureReleases := by
  unfold Obligations.ReadCommandFailureReleases
  refine ⟨fun s reg g c x admitted supplied => ?assert, fun s reg g b x admitted supplied => ?command⟩
  case assert => exact ⟨_, exec_read_admitted admitted, readRegisterGroup_assertFails supplied⟩
  case command => exact ⟨_, exec_read_admitted admitted, readRegisterGroup_commandFails supplied⟩

theorem registerGroupOf_number (g : RegisterGroup) : registerGroupOf g.number = some g := by
  cases g <;> rfl

/-- REG 15 to 31 name no group (30_encoding.md R110). -/
theorem registerGroupOf_reserved {reg : BitVec 5} (h : 14 < reg.toNat) : registerGroupOf reg = none :=
  List.getElem?_eq_none h

/-- Settles O31: either way no group is admitted, and the refusal comes before any call. -/
theorem readRefusesUnsupportedGroups : Obligations.ReadRefusesUnsupportedGroups := by
  unfold Obligations.ReadRefusesUnsupportedGroups
  intro s reg h
  refine ⟨_, exec_read_unadmitted ?_, refuses_refuse s _⟩
  rcases h with reserved | ⟨g, rfl, unsupported⟩
  · rw [admittedGroup, registerGroupOf_reserved reserved]
  · rw [admittedGroup, registerGroupOf_number]
    exact if_neg (by simpa [supportsGroup] using unsupported)

/-! ### POLL_CONVERSION_DONE (R186 to R191) -/

/-- Settles O32: the release after the sample decides response and line. -/
theorem pollReportsTrueOnAllOnes : Obligations.PollReportsTrueOnAllOnes := by
  unfold Obligations.PollReportsTrueOnAllOnes
  intro s x g supplied
  have polled := pollConversionDone_idle supplied
  refine ⟨_, exec_poll g, ?_⟩
  cases x with
  | ok => exact polled
  | err p => exact polled

/-- Settles O33: the sample is the only call. -/
theorem pollReportsFalseOtherwise : Obligations.PollReportsFalseOtherwise := by
  unfold Obligations.PollReportsFalseOtherwise
  exact fun s b g busy supplied => ⟨_, exec_poll g, pollConversionDone_busy busy supplied⟩

/-- Settles O34: the failed sample ends in FAIL. -/
theorem pollFailureEndsSequence : Obligations.PollFailureEndsSequence := by
  unfold Obligations.PollFailureEndsSequence
  exact fun s b x g supplied => ⟨_, exec_poll g, pollConversionDone_fails supplied⟩

theorem exec_poll_unadmitted {s : State} (h : s.strategy = .releaseImmediately) :
    exec .poll s = .next (s.refuse .pollWithoutLineHold) := by
  simp only [exec, execPoll, h]

/-- Settles O35: the refusal comes before any call. -/
theorem pollRefusedUnderReleaseImmediately : Obligations.PollRefusedUnderReleaseImmediately := by
  unfold Obligations.PollRefusedUnderReleaseImmediately
  exact fun s g => ⟨_, exec_poll_unadmitted g, refuses_refuse s _⟩

/-! ### The path table (R193) -/

/-- The operations that make no collaborator call: all but START, READ and POLL (92_eei_decisions.md D36). -/
def isPure : Instr → Bool
  | .startconv _ _ _ | .read _ | .poll => false
  | _ => true

/-- A START or READ whose operand is supported, or a POLL under LineHold. -/
def Admitted (s : State B P) (i : Instr) : Prop :=
  (∃ opc, admittedOpcode s.params i = some opc) ∨ (i = .poll ∧ s.strategy = .lineHold)

theorem Admitted.not_isPure {s : State B P} {i : Instr} (h : Admitted s i) : isPure i = false := by
  rcases h with ⟨opc, hopc⟩ | ⟨rfl, -⟩
  · cases i with
    | startconv | read | poll => rfl
    | calcPec | frame | validate | switch => cases hopc
  · rfl

/-- A START, READ or POLL follows a row of the path table, or it is not admitted and refused. -/
theorem exec_followsPath_or_refuses {i : Instr} (s : State) (h : isPure i = false) :
    (∃ t, exec i s = .next t ∧ FollowsPath s i t) ∨ (¬ Admitted s i ∧ ∃ why, exec i s = .next (s.refuse why)) := by
  cases i with
  | startconv md dcp ch =>
    cases hch : supportsCh s.params ch with
    | true => exact .inl ⟨_, exec_startconv_supported md dcp hch, startConversion_followsPath md dcp hch⟩
    | false => exact .inr ⟨by simp [Admitted, admittedOpcode, hch], _, exec_startconv_unsupported md dcp hch⟩
  | read reg =>
    cases hreg : admittedGroup s.params reg with
    | some g => exact .inl ⟨_, exec_read_admitted hreg, readRegisterGroup_followsPath hreg⟩
    | none => exact .inr ⟨by simp [Admitted, admittedOpcode, hreg], _, exec_read_unadmitted hreg⟩
  | poll =>
    cases hg : s.strategy with
    | lineHold => exact .inl ⟨_, exec_poll hg, pollConversionDone_followsPath hg⟩
    | releaseImmediately => exact .inr ⟨by simp [Admitted, admittedOpcode, hg], _, exec_poll_unadmitted hg⟩
  | calcPec | frame | validate | switch => cases h

/-- Settles O36: an admitted operation is not refused. -/
theorem transfersFollowPathTable : Obligations.TransfersFollowPathTable := by
  unfold Obligations.TransfersFollowPathTable
  intro s i admitted
  rcases exec_followsPath_or_refuses s (Admitted.not_isPure admitted) with
    ⟨t, ran, calls, r, line, phase, row⟩ | ⟨refused, -⟩
  · exact ⟨t, calls, r, line, phase, ran, row⟩
  · exact absurd admitted refused

/-! ### The chip-select guarantee (R194) -/

theorem releaseResponse_eq_ok_iff {v w : Value} {x : PinResult P} :
    (releaseResponse v x : Response B P) = .ok w ↔ x = .ok ∧ v = w := by
  cases x <;> simp [releaseResponse]

/-- The line after an operation that returns Ok, under strategy `g` and with the line at `l` before it. -/
def lineAfterOk (g : Strategy) (l : Line) (v : Value) : Instr → Line
  | .startconv _ _ _ => if g = .lineHold then .asserted else .deasserted
  | .read _ => .deasserted
  | .poll => if v = .done false then l else .deasserted
  | _ => l

theorem lineAfterOk_of_isPure {i : Instr} (h : isPure i = true) (g : Strategy) (l : Line) (v : Value) :
    lineAfterOk g l v i = l := by
  cases i with
  | startconv | read | poll => cases h
  | calcPec | frame | validate | switch => rfl

section Row

variable {p : Params} {g : Strategy} {l line : Line} {h phase : Phase} {i : Instr} {calls : List (Event B P)}
  {r : Response B P}

/-- A row that returns an error ends with the release. -/
theorem TransferPath.released_of_err {e : Error B P} (path : TransferPath p g l h i calls r line phase)
    (hr : r = .err e) :
    ∃ front x, calls = front ++ [.pinHigh x] ∧ line = levelAfter .deasserted x ∧ phase = .idle := by
  cases path with
  | startHolds | sampleBusy => cases hr
  | assertFails _ _ c x => exact ⟨[.pinLow (.err c)], x, rfl, rfl, rfl⟩
  | commandFails _ opc b x => exact ⟨[.pinLow .ok, commandEvent opc (.err b)], x, rfl, rfl, rfl⟩
  | startReleases _ _ _ opc rx x => exact ⟨sentCalls opc rx, x, rfl, rfl, rfl⟩
  | deviceFails _ opc rx fs b x =>
    exact ⟨sentCalls opc rx ++ fs.map deviceEvent ++ [.xfer readTx (.err b)], x, by simp, rfl, rfl⟩
  | deviceMismatches _ opc rx fs bad x =>
    exact ⟨sentCalls opc rx ++ fs.map deviceEvent ++ [deviceEvent bad], x, by simp, rfl, rfl⟩
  | readReturns _ opc rx fs x => exact ⟨sentCalls opc rx ++ fs.map deviceEvent, x, rfl, rfl, rfl⟩
  | sampleFails b x => exact ⟨[.xfer [allOnes] (.err b)], x, rfl, rfl, rfl⟩
  | sampleIdle x => exact ⟨[.xfer [allOnes] (.ok [allOnes])], x, rfl, rfl, rfl⟩

/-- A row that returns Ok leaves the line its operation and strategy name. -/
theorem TransferPath.line_of_ok {v : Value} (path : TransferPath p g l h i calls r line phase) (hr : r = .ok v) :
    line = lineAfterOk g l v i := by
  cases path with
  | assertFails | commandFails | deviceFails | deviceMismatches | sampleFails => cases hr
  | startReleases _ _ _ _ _ _ _ hg _ =>
    obtain ⟨rfl, -⟩ := releaseResponse_eq_ok_iff.mp hr
    subst hg
    rfl
  | startHolds _ _ _ _ _ _ hg _ =>
    subst hg
    rfl
  | readReturns =>
    obtain ⟨rfl, -⟩ := releaseResponse_eq_ok_iff.mp hr
    rfl
  | sampleIdle =>
    obtain ⟨rfl, rfl⟩ := releaseResponse_eq_ok_iff.mp hr
    rfl
  | sampleBusy =>
    cases hr
    rfl

end Row

theorem Concludes.response_eq {s t : State B P} {r r' : Response B P} {calls : List (Event B P)} {line : Line}
    {phase : Phase} (h : Concludes s t r calls line phase) (h' : t.responses = s.responses ++ [r']) : r = r' :=
  List.head_eq_of_cons_eq (List.append_cancel_left (h.responses.symm.trans h'))

/-- A START, READ or POLL that returns a response has followed a row with that response. -/
theorem exec_row_of_response {i : Instr} {s t : State} {r : Response BusCause PinCause} (bus : isPure i = false)
    (h : exec i s = .next t) (hr : t.responses = s.responses ++ [r]) :
    ∃ calls line phase, TransferPath s.params s.strategy s.csLine s.phase i calls r line phase ∧
      Concludes s t r calls line phase := by
  rcases exec_followsPath_or_refuses s bus with ⟨t', ran, calls, r', line, phase, path, -, hc⟩ | ⟨-, why, ran⟩
  · cases h.symm.trans ran
    obtain rfl := hc.response_eq hr
    exact ⟨calls, line, phase, path, hc⟩
  · cases h.symm.trans ran
    simp at hr

/-- A pure operation leaves the line. -/
theorem exec_csLine_of_isPure {i : Instr} {s t : State} (pure : isPure i = true) (h : exec i s = .next t) :
    t.csLine = s.csLine := by
  cases i with
  | startconv | read | poll => cases pure
  | calcPec | frame | validate =>
    cases h
    rfl
  | switch target =>
    cases h
    split <;> rfl

/-- Of the pure operations only VALIDATE returns an error. -/
theorem validate_of_isPure_of_err {i : Instr} {s t : State} {e : Error BusCause PinCause} (pure : isPure i = true)
    (h : exec i s = .next t) (he : t.responses = s.responses ++ [.err e]) : ∃ r, i = .validate r := by
  cases i with
  | startconv | read | poll => cases pure
  | validate r => exact ⟨r, rfl⟩
  | calcPec | frame =>
    cases h
    simp at he
  | switch target =>
    cases h
    split at he <;> simp at he

/-- An operation that returns Ok leaves the line its kind and the strategy name. -/
theorem exec_line_of_ok {i : Instr} {s t : State} {v : Value} (h : exec i s = .next t)
    (hv : t.responses = s.responses ++ [.ok v]) : t.csLine = lineAfterOk s.strategy s.csLine v i := by
  cases pure : isPure i with
  | true => rw [lineAfterOk_of_isPure pure, exec_csLine_of_isPure pure h]
  | false =>
    obtain ⟨calls, line, phase, path, hc⟩ := exec_row_of_response pure h hv
    rw [hc.csLine, path.line_of_ok rfl]

/-- An operation other than VALIDATE that returns an error has made the release its last call. -/
theorem exec_released_of_err {i : Instr} {s t : State} {e : Error BusCause PinCause} (notValidate : ∀ r, i ≠ .validate r)
    (h : exec i s = .next t) (he : t.responses = s.responses ++ [.err e]) :
    ∃ calls x, t.trace = s.trace ++ calls ++ [.pinHigh x] ∧ t.csLine = levelAfter .deasserted x ∧ t.phase = .idle := by
  cases pure : isPure i with
  | true =>
    obtain ⟨r, rfl⟩ := validate_of_isPure_of_err pure h he
    exact absurd rfl (notValidate r)
  | false =>
    obtain ⟨calls, line, phase, path, hc⟩ := exec_row_of_response pure h he
    obtain ⟨front, x, rfl, rfl, rfl⟩ := path.released_of_err rfl
    exact ⟨front, x, by rw [hc.trace, List.append_assoc], hc.csLine, hc.phase⟩

/-- Settles O37: a row that returns an error ends with the release, and one that returns Ok leaves the line its
operation names; the pure operations leave it as it was. -/
theorem chipSelectGuarantee : Obligations.ChipSelectGuarantee := by
  unfold Obligations.ChipSelectGuarantee
  refine fun i s t h => ⟨fun e notValidate => exec_released_of_err notValidate h, fun v hv => ?_⟩
  have line := exec_line_of_ok h hv
  refine ⟨?start, ?read, ?poll, ?pure⟩
  case start =>
    rintro md dcp ch rfl
    exact line
  case read =>
    rintro reg rfl
    exact line
  case poll =>
    rintro rfl
    exact line
  case pure =>
    intro notStart notRead notPoll
    cases i with
    | startconv md dcp ch => exact absurd rfl (notStart md dcp ch)
    | read reg => exact absurd rfl (notRead reg)
    | poll => exact absurd rfl notPoll
    | calcPec | frame | validate | switch => exact line

end Sys2Proof.Machine
end

section
/-! The strategies (43_strategy.md): what SWITCH writes and when it is refused (R215, R216), and the phase every request
leaves (R211 to R214), read off the row of the path table the request followed. -/

namespace Sys2Proof.Machine

open Sys2Proof

variable {B P : Type}

/-! ### SWITCH (R215, R216) -/

theorem switchAdmitted_iff {active target : Strategy} :
    switchAdmitted active target = true ↔ active = .releaseImmediately ∧ target = .lineHold := by
  simp [switchAdmitted]

theorem exec_switch_admitted {s : State} {target : Strategy}
    (h : s.strategy = .releaseImmediately ∧ target = .lineHold) :
    exec (.switch target) s = .next ((s.setStrategy target).respond (.ok .unit)) := by
  simp only [exec, execSwitch, if_pos (switchAdmitted_iff.mpr h)]

theorem exec_switch_unadmitted {s : State} {target : Strategy}
    (h : ¬ (s.strategy = .releaseImmediately ∧ target = .lineHold)) :
    exec (.switch target) s = .next (s.refuse .strategySwitchNotAdmitted) := by
  simp only [exec, execSwitch, if_neg (mt switchAdmitted_iff.mp h)]

/-- Settles O42: an admitted switch writes the strategy and responds; any other is refused. -/
theorem switchWritesOnlyStrategy : Obligations.SwitchWritesOnlyStrategy := by
  unfold Obligations.SwitchWritesOnlyStrategy
  refine fun s target => ⟨?admitted, fun unadmitted => ⟨_, exec_switch_unadmitted unadmitted, refuses_refuse s _⟩⟩
  case admitted =>
    rintro ⟨hg, rfl⟩
    exact exec_switch_admitted ⟨hg, rfl⟩

/-! ### The phase a row of the path table leaves (R211 to R213) -/

theorem Concludes.responses_eq_iff {s t : State B P} {r r' : Response B P} {calls : List (Event B P)} {line : Line}
    {phase : Phase} (h : Concludes s t r calls line phase) : t.responses = s.responses ++ [r'] ↔ r = r' :=
  ⟨h.response_eq, fun same => same ▸ h.responses⟩

section Row

variable {p : Params} {g : Strategy} {l line : Line} {h phase : Phase} {calls : List (Event B P)} {r : Response B P}

/-- Of the rows of START only the one that holds the line ends in Polling. -/
theorem TransferPath.phase_of_startconv [DecidableEq B] [DecidableEq P] {md : BitVec 2} {dcp : Bool} {ch : BitVec 3}
    (path : TransferPath p g l h (.startconv md dcp ch) calls r line phase) :
    phase = if g = .lineHold ∧ r = .ok .unit then .polling else .idle := by
  cases path with
  | assertFails | commandFails => simp
  | startReleases _ _ _ _ _ _ _ hg =>
    subst hg
    simp
  | startHolds _ _ _ _ _ _ hg =>
    subst hg
    simp

/-- Every row of READ ends in Idle. -/
theorem TransferPath.phase_of_read {reg : BitVec 5} (path : TransferPath p g l h (.read reg) calls r line phase) :
    phase = .idle := by
  cases path with
  | assertFails | commandFails | deviceFails | deviceMismatches | readReturns => rfl

/-- Of the rows of POLL only the busy sample keeps the phase. -/
theorem TransferPath.phase_of_poll [DecidableEq B] [DecidableEq P]
    (path : TransferPath p g l h .poll calls r line phase) :
    phase = if r = .ok (.done false) then h else .idle := by
  cases path with
  | assertFails _ _ _ _ hopc | commandFails _ _ _ _ hopc => cases hopc
  | sampleFails => simp
  | sampleIdle => simp [releaseResponse_eq_ok_iff]
  | sampleBusy => simp

end Row

/-! ### The transition table (R214) -/

theorem isPure_of_ne {i : Instr} (notStart : ∀ md dcp ch, i ≠ .startconv md dcp ch) (notRead : ∀ reg, i ≠ .read reg)
    (notPoll : i ≠ .poll) : isPure i = true := by
  cases i with
  | startconv md dcp ch => exact absurd rfl (notStart md dcp ch)
  | read reg => exact absurd rfl (notRead reg)
  | poll => exact absurd rfl notPoll
  | calcPec | frame | validate | switch => rfl

/-- A pure operation leaves the phase. -/
theorem exec_phase_of_isPure {i : Instr} {s t : State} (pure : isPure i = true) (h : exec i s = .next t) :
    t.phase = s.phase := by
  cases i with
  | startconv | read | poll => cases pure
  | calcPec | frame | validate =>
    cases h
    rfl
  | switch target =>
    by_cases admitted : s.strategy = .releaseImmediately ∧ target = .lineHold
    · cases h.symm.trans (exec_switch_admitted admitted)
      rfl
    · cases h.symm.trans (exec_switch_unadmitted admitted)
      rfl

/-- Settles O44: an admitted START, READ or POLL leaves the phase of the row it followed, and a pure operation leaves
the phase. -/
theorem phaseFollowsTransitionTable : Obligations.PhaseFollowsTransitionTable := by
  unfold Obligations.PhaseFollowsTransitionTable
  refine ⟨?start, ?read, ?poll, ?pure⟩
  case start =>
    intro s t md dcp ch hch h
    cases h.symm.trans (exec_startconv_supported md dcp hch)
    obtain ⟨_, _, _, _, path, -, hc⟩ := startConversion_followsPath md dcp hch
    simp only [hc.phase, path.phase_of_startconv, hc.responses_eq_iff]
  case read =>
    intro s t reg g hreg h
    cases h.symm.trans (exec_read_admitted hreg)
    obtain ⟨_, _, _, _, path, -, hc⟩ := readRegisterGroup_followsPath hreg
    exact hc.phase.trans path.phase_of_read
  case poll =>
    intro s t hg h
    cases h.symm.trans (exec_poll hg)
    obtain ⟨_, _, _, _, path, -, hc⟩ := pollConversionDone_followsPath hg
    simp only [hc.phase, path.phase_of_poll, hc.responses_eq_iff]
  case pure =>
    exact fun i s t notStart notRead notPoll => exec_phase_of_isPure (isPure_of_ne notStart notRead notPoll)

end Sys2Proof.Machine
end

section
/-! Refusals and progress (60_exceptions.md): what a request without a response leaves (R231), and that nothing stops
the block (R235, R248). -/

namespace Sys2Proof.Machine

open Sys2Proof

variable {B P : Type}

/-! ### A request without a response (R231) -/

/-- An admitted switch and a concluded operation both append a response, so what appends none is a refusal. -/
theorem Answers.refuses_of_no_response {s t : State B P} {o : Option Instr} (h : Answers s o t)
    (silent : t.responses = s.responses) : ∃ why, Refuses s t why := by
  cases h with
  | refuses _ why => exact ⟨why, refuses_refuse s why⟩
  | switches _ => exact absurd (List.append_right_eq_self.mp silent) (List.cons_ne_nil _ _)
  | responds _ hc _ =>
    exact absurd (List.append_right_eq_self.mp (hc.responses.symm.trans silent)) (List.cons_ne_nil _ _)

/-- Settles O46: the step answers the request it takes, and of its answers only a refusal appends no response. -/
theorem refusalChangesNothingElse : Obligations.RefusalChangesNothingElse := by
  unfold Obligations.RefusalChangesNothingElse
  intro s t q rest hq h silent
  have answer := step_answers hq h
  rw [State.takeRequest_eq hq] at answer
  exact answer.refuses_of_no_response silent

/-! ### Every step answers a next state (R235, R248) -/

/-- Every operation answers a next state, errors and refusals included (60_exceptions.md R231, R238). -/
theorem exec_next (i : Instr) (s : State) : ∃ t, exec i s = .next t := by
  cases i with
  | calcPec | frame | validate | startconv | read | poll | switch => exact ⟨_, rfl⟩

/-- Settles O6: the block holds with no request pending, and else refuses a reserved encoding or runs an operation. -/
theorem stepAlwaysAnswers : Obligations.StepAlwaysAnswers := by
  unfold Obligations.StepAlwaysAnswers
  intro s
  cases hq : s.requests with
  | nil => exact ⟨s, step_of_idle hq⟩
  | cons q rest =>
    rw [step_of_pending hq]
    cases hd : decode q with
    | ok i =>
      rw [runRequest_of_decode hd]
      exact exec_next i s.takeRequest
    | error e => exact ⟨_, runRequest_of_decodeError hd s.takeRequest⟩

end Sys2Proof.Machine
end

section
/-! Construction and its refusals (70_reset_and_hazards.md R260, R262). The case of legal parameters is
`construct_eq_ok`. -/

namespace Sys2Proof.Machine

open Sys2Proof

variable {B P : Type}

theorem construct_of_zeroChainLength {p : Params} (zero : p.chainLength = 0) (pins : List (PinResult P))
    (buses : List (BusResult B)) : construct p pins buses = .error .zeroChainLength :=
  if_pos (Nat.lt_one_iff.mpr zero)

theorem construct_of_overlap {p : Params} (one : 1 ≤ p.chainLength) (overlap : templateDisjoint p = false)
    (pins : List (PinResult P)) (buses : List (BusResult B)) :
    construct p pins buses = .error .overlappingOpcodeFields := by
  simp [construct, overlap, Nat.not_lt.mpr one]

/-- Settles O1: a construction is refused for L = 0 and for an overlapping template, and with legal parameters it
leaves `State.ofParams` over the draws it was given. -/
theorem constructionRefusesOrLeavesInitialState : Obligations.ConstructionRefusesOrLeavesInitialState := by
  unfold Obligations.ConstructionRefusesOrLeavesInitialState
  intro p pins buses
  refine ⟨fun zero => construct_of_zeroChainLength zero pins buses,
    fun one overlap => construct_of_overlap one overlap pins buses, fun one disjoint => ?legal⟩
  case legal =>
    exact ⟨{ State.ofParams p with pinDraws := pins, busDraws := buses }, construct_eq_ok ⟨one, disjoint⟩ pins buses,
      rfl, rfl, rfl, rfl, rfl, rfl, rfl, rfl, rfl, rfl⟩

end Sys2Proof.Machine
end
